-- ==== Sys2Proof/Word.lean ====
section
/-!
DEFINITION. The word types of the unit: bytes, bus addresses, the operation word (spec/30_encoding.md R111).
-/
namespace Sys2Proof

/-- One byte: every register and every bus transfer (spec/00_scope.md R9, spec/20_memory.md R83). -/
abbrev Byte := BitVec 8

/-- A CPU bus address or a debug address (spec/20_memory.md R80). -/
abbrev CpuAddr := BitVec 16

/-- A PPU pattern address, `$0000-$1FFF` (spec/20_memory.md R80). -/
abbrev PatternAddr := BitVec 13

/-- A 32-bit operation word (spec/30_encoding.md R111). -/
abbrev OpWord := BitVec 32

end Sys2Proof
end

