-- ==== Sys2Proof/Syntax.lean ====
section
/-!
DEFINITION. The unit's operations, one constructor per row of spec/opcode_table.json. The unit executes no instruction
stream: an "instruction" is one call of an entry point (spec/30_encoding.md R110, R113). An address operand holds the
bits of the address that the row leaves free; `v` is the data byte of a write.
-/
namespace Sys2Proof

/-- The two Square channels (spec/10_state.md R49): Square 1 at `$5000-$5003`, Square 2 at `$5004-$5007`. -/
inductive Square where
  | sq1
  | sq2
deriving DecidableEq, Repr

/-- The two registers of the row BW_FILL (spec/10_state.md R33). -/
inductive FillReg where
  | tile
  | attr
deriving DecidableEq, Repr

/-- The two registers of the row BW_SPLIT (spec/10_state.md R33). -/
inductive SplitReg where
  | mode
  | scroll
deriving DecidableEq, Repr

/-- One operation of the unit. -/
inductive Instr where
  /-- `R $5015` (spec/43_apu_channels.md R267). -/
  | brSndStatus
  /-- `R $5204` (spec/42_irq_scanline.md R232). -/
  | brIrqStatus
  /-- `R $5205` (spec/45_multiplier.md R362). -/
  | brMulLo
  /-- `R $5206` (spec/45_multiplier.md R363). -/
  | brMulHi
  /-- `R $6000+off` (spec/41_write_protect.md R203). -/
  | brPrgRamLo (off : BitVec 13)
  /-- `R $8000+a` (spec/40_bank_switch.md R150). -/
  | brHigh (a : BitVec 15)
  /-- A low read that no other row takes (spec/46_register_bank_misc.md R383; refused below `$4020`, spec/20_memory.md R81). -/
  | brUndriven (addr : CpuAddr)
  /-- `W $5010` (spec/43_apu_channels.md R264). -/
  | bwDmcCtrl (v : Byte)
  /-- `W $5011` (spec/43_apu_channels.md R265). -/
  | bwDmcDac (v : Byte)
  /-- `W $5015` (spec/43_apu_channels.md R266). -/
  | bwSndEn (v : Byte)
  /-- `W $5100` (spec/40_bank_switch.md R140). -/
  | bwPrgMode (v : Byte)
  /-- `W $5101` (spec/40_bank_switch.md R160). -/
  | bwChrMode (v : Byte)
  /-- `W $5102` (spec/41_write_protect.md R200). -/
  | bwProtA (v : Byte)
  /-- `W $5103` (spec/41_write_protect.md R201). -/
  | bwProtB (v : Byte)
  /-- `W $5104` (spec/46_register_bank_misc.md R382). -/
  | bwExramMode (v : Byte)
  /-- `W $5105` (spec/40_bank_switch.md R170). -/
  | bwNtMap (v : Byte)
  /-- `W $5113` (spec/40_bank_switch.md R142). -/
  | bwPrgRamPage (v : Byte)
  /-- `W $5130` (spec/40_bank_switch.md R162). -/
  | bwChrHigh (v : Byte)
  /-- `W $5202` (spec/46_register_bank_misc.md R382). -/
  | bwSplitBank (v : Byte)
  /-- `W $5203` (spec/42_irq_scanline.md R230). -/
  | bwIrqTarget (v : Byte)
  /-- `W $5204` (spec/42_irq_scanline.md R231). -/
  | bwIrqEnable (v : Byte)
  /-- `W $5205` (spec/45_multiplier.md R360). -/
  | bwMulA (v : Byte)
  /-- `W $5206` (spec/45_multiplier.md R361). -/
  | bwMulB (v : Byte)
  /-- `W $5000` / `W $5004` (spec/43_apu_channels.md R260). -/
  | bwSqCtrl (c : Square) (v : Byte)
  /-- `W $5001` / `W $5005` (spec/43_apu_channels.md R261). -/
  | bwSqSweep (c : Square) (v : Byte)
  /-- `W $5002` / `W $5006` (spec/43_apu_channels.md R262). -/
  | bwSqTlo (c : Square) (v : Byte)
  /-- `W $5003` / `W $5007` (spec/43_apu_channels.md R263). -/
  | bwSqLen (c : Square) (v : Byte)
  /-- `W $5106` / `W $5107` (spec/46_register_bank_misc.md R382). -/
  | bwFill (r : FillReg) (v : Byte)
  /-- `W $5200` / `W $5201` (spec/46_register_bank_misc.md R382). -/
  | bwSplit (r : SplitReg) (v : Byte)
  /-- `W $5114+r` (spec/40_bank_switch.md R141). -/
  | bwPrgBank (r : BitVec 2) (v : Byte)
  /-- `W $5128+r` (spec/40_bank_switch.md R161). -/
  | bwChrBankBg (r : BitVec 2) (v : Byte)
  /-- `W $5120+r` (spec/40_bank_switch.md R161). -/
  | bwChrBankSpr (r : BitVec 3) (v : Byte)
  /-- `W $6000+off` (spec/41_write_protect.md R204). -/
  | bwPrgRamLo (off : BitVec 13) (v : Byte)
  /-- `W $8000+a` (spec/41_write_protect.md R205). -/
  | bwHigh (a : BitVec 15) (v : Byte)
  /-- A low write that no other row takes (spec/46_register_bank_misc.md R385; refused below `$4020`, spec/20_memory.md R81). -/
  | bwUnmapped (addr : CpuAddr) (v : Byte)
  /-- `PR a` (spec/40_bank_switch.md R156). -/
  | pr (a : PatternAddr)
  /-- `PW a,#v` (spec/40_bank_switch.md R159). -/
  | pw (a : PatternAddr) (v : Byte)
  /-- `SC` (spec/43_apu_channels.md R268). -/
  | sc
  /-- `SP` with its side argument `cycle` (spec/42_irq_scanline.md R233). -/
  | sp (cycle : Nat) (ppuAddr : BitVec 14)
  /-- `AM` (spec/44_mixer.md R330). -/
  | am
  /-- `RS soft` / `RS hard` (spec/70_reset_and_hazards.md R430). -/
  | rs (soft : Bool)
  /-- `MK #mask` (spec/43_apu_channels.md R277). -/
  | mkMask (mask : BitVec 3)
  /-- `DR addr` (spec/46_register_bank_misc.md R384). -/
  | dr (addr : CpuAddr)
deriving DecidableEq, Repr

end Sys2Proof
end

