-- ==== Sys2Proof/Machine/RegMap.lean ====
section
/-!
DEFINITION. The register map (spec/10_state.md R33, spec/46_register_bank_misc.md R380): which of the 44 raw registers,
if any, stands at an address, and the registers' names.
-/
namespace Sys2Proof.Machine

/-- The index of the register at a CPU address, none where there is no register (spec/46_register_bank_misc.md R380). -/
def regIdx (addr : CpuAddr) : Option (Fin 44) :=
  let a := addr.toNat
  if h : 0x5000 ≤ a ∧ a ≤ 0x5007 then some ⟨a - 0x5000, by omega⟩
  else if a = 0x5010 then some 8
  else if a = 0x5011 then some 9
  else if a = 0x5015 then some 10
  else if h : 0x5100 ≤ a ∧ a ≤ 0x5107 then some ⟨11 + (a - 0x5100), by omega⟩
  else if h : 0x5113 ≤ a ∧ a ≤ 0x5117 then some ⟨19 + (a - 0x5113), by omega⟩
  else if h : 0x5120 ≤ a ∧ a ≤ 0x512B then some ⟨24 + (a - 0x5120), by omega⟩
  else if a = 0x5130 then some 36
  else if h : 0x5200 ≤ a ∧ a ≤ 0x5206 then some ⟨37 + (a - 0x5200), by omega⟩
  else none

/-! The indices of the registers that have one name (spec/10_state.md R33). -/

abbrev rDmcCtrl : Fin 44 := 8
abbrev rDmcRaw : Fin 44 := 9
abbrev rSndEn : Fin 44 := 10
abbrev rPrgMode : Fin 44 := 11
abbrev rChrMode : Fin 44 := 12
abbrev rProtA : Fin 44 := 13
abbrev rProtB : Fin 44 := 14
abbrev rExramMode : Fin 44 := 15
abbrev rNtMap : Fin 44 := 16
abbrev rFillTile : Fin 44 := 17
abbrev rFillAttr : Fin 44 := 18
abbrev rPrg6000 : Fin 44 := 19
abbrev rPrg8000 : Fin 44 := 20
abbrev rPrgA000 : Fin 44 := 21
abbrev rPrgC000 : Fin 44 := 22
abbrev rPrgE000 : Fin 44 := 23
abbrev rChrHigh : Fin 44 := 36
abbrev rSplitMode : Fin 44 := 37
abbrev rSplitScroll : Fin 44 := 38
abbrev rSplitBank : Fin 44 := 39
abbrev rIrqTarget : Fin 44 := 40
abbrev rIrqCtrl : Fin 44 := 41
abbrev rMulA : Fin 44 := 42
abbrev rMulB : Fin 44 := 43

/-- The index of a Square channel's register k, k = 0..3 (spec/43_apu_channels.md section 2). -/
def rSquare (c : Square) (k : Fin 4) : Fin 44 :=
  match c with
  | .sq1 => ⟨k.val, by omega⟩
  | .sq2 => ⟨4 + k.val, by omega⟩

/-- The index of a BW_FILL register: `$5106` or `$5107`. -/
def rFill (r : FillReg) : Fin 44 :=
  match r with
  | .tile => rFillTile
  | .attr => rFillAttr

/-- The index of a BW_SPLIT register: `$5200` or `$5201`. -/
def rSplit (r : SplitReg) : Fin 44 :=
  match r with
  | .mode => rSplitMode
  | .scroll => rSplitScroll

/-- The index of PRG bank register `$5114 + r`. -/
def rPrgBank (r : BitVec 2) : Fin 44 := ⟨20 + r.toNat, by have := r.isLt; omega⟩

/-- The index of CHR bank register r, `$5120 + r`. -/
def rChrBank (r : Fin 12) : Fin 44 := ⟨24 + r.val, by omega⟩

end Sys2Proof.Machine
end

