-- ==== Sys2Proof/WellFormed.lean ====
section
/-!
DEFINITION. When an operation is well-formed: it stands for an address that its own row of spec/opcode_table.json takes.
All other operands are of a type that admits only legal values. An address below `$4020` is well-formed here: such a call
can be made, and its meaning refuses it (spec/20_memory.md R81).
-/
namespace Sys2Proof

/-- The address belongs to the low entry points, `addr < $8000` (spec/30_encoding.md R111). -/
def isLow (addr : CpuAddr) : Bool := decide (addr.toNat < 0x8000)

/-- The address lies in the low PRG-RAM window `$6000-$7FFF` (spec/20_memory.md R88). -/
def isRamWindow (addr : CpuAddr) : Bool := decide (0x6000 ≤ addr.toNat ∧ addr.toNat ≤ 0x7FFF)

/-- The four registers a bus read drives (spec/46_register_bank_misc.md R381). -/
def isDriven (addr : CpuAddr) : Bool :=
  addr = 0x5015#16 || addr = 0x5204#16 || addr = 0x5205#16 || addr = 0x5206#16

/-- An operation's address is one its own row takes. -/
def Instr.wf : Instr → Bool
  | .brUndriven addr => isLow addr && !isDriven addr && !isRamWindow addr
  | .bwUnmapped addr _ => isLow addr && (Machine.regIdx addr).isNone && !isRamWindow addr
  | .brSndStatus | .brIrqStatus | .brMulLo | .brMulHi | .brPrgRamLo _ | .brHigh _
  | .bwDmcCtrl _ | .bwDmcDac _ | .bwSndEn _ | .bwPrgMode _ | .bwChrMode _ | .bwProtA _ | .bwProtB _
  | .bwExramMode _ | .bwNtMap _ | .bwPrgRamPage _ | .bwChrHigh _ | .bwSplitBank _ | .bwIrqTarget _
  | .bwIrqEnable _ | .bwMulA _ | .bwMulB _ | .bwSqCtrl _ _ | .bwSqSweep _ _ | .bwSqTlo _ _ | .bwSqLen _ _
  | .bwFill _ _ | .bwSplit _ _ | .bwPrgBank _ _ | .bwChrBankBg _ _ | .bwChrBankSpr _ _ | .bwPrgRamLo _ _
  | .bwHigh _ _ | .pr _ | .pw _ _ | .sc | .sp _ _ | .am | .rs _ | .mkMask _ | .dr _ => true

end Sys2Proof
end

