-- ==== Sys2Proof/Decode.lean ====
section
/-!
DEFINITION. Decoding and encoding of operation words (spec/30_encoding.md R111, R112, R114, R115, R117). An operation
word is always 32 bits; the side argument `cycle` of SP stands beside it and no other operation reads it.
-/
namespace Sys2Proof

/-- Why a word is refused (spec/30_encoding.md R117, spec/20_memory.md R81). -/
inductive DecodeError where
  /-- `kind` is 10 or more. -/
  | illegalKind
  /-- A bit of 27:24 is 1. -/
  | reservedBits
  /-- A field that the kind marks "must be 0" is not 0. -/
  | mustBeZero
  /-- PR or PW with a pattern address above `$1FFF`. -/
  | addressOutsideRange
deriving DecidableEq, Repr

/-- The four fields of an operation word (spec/30_encoding.md R111). -/
structure Fields where
  kind : BitVec 4
  zero : BitVec 4
  data : Byte
  addr : CpuAddr
deriving DecidableEq, Repr

/-- Bits 31:28, 27:24, 23:16 and 15:0 of a word (spec/30_encoding.md R111). DEDUCED: the data byte stands in bits 23:16
for every write, where spec/40_bank_switch.md R140 writes the word of a PRG mode write otherwise
(notes/assumptions/21.md). -/
def fieldsOf (w : OpWord) : Fields :=
  { kind := w.extractLsb' 28 4, zero := w.extractLsb' 24 4, data := w.extractLsb' 16 8, addr := w.extractLsb' 0 16 }

/-- The word `kind<<28 | data<<16 | addr` (spec/30_encoding.md R119). -/
def packFields (f : Fields) : OpWord := f.kind ++ f.zero ++ f.data ++ f.addr

/-- The read dispatch of spec/30_encoding.md R115, the narrowest row first (R112). -/
def decodeRead (addr : CpuAddr) : Instr :=
  if addr = 0x5015#16 then .brSndStatus
  else if addr = 0x5204#16 then .brIrqStatus
  else if addr = 0x5205#16 then .brMulLo
  else if addr = 0x5206#16 then .brMulHi
  else if addr.extractLsb' 13 3 = 0b011#3 then .brPrgRamLo (addr.extractLsb' 0 13)
  else if addr.extractLsb' 15 1 = 0b1#1 then .brHigh (addr.extractLsb' 0 15)
  else .brUndriven addr

/-- The write dispatch of spec/30_encoding.md R114, the narrowest row first (R112). -/
def decodeWrite (addr : CpuAddr) (v : Byte) : Instr :=
  if addr = 0x5000#16 then .bwSqCtrl .sq1 v
  else if addr = 0x5004#16 then .bwSqCtrl .sq2 v
  else if addr = 0x5001#16 then .bwSqSweep .sq1 v
  else if addr = 0x5005#16 then .bwSqSweep .sq2 v
  else if addr = 0x5002#16 then .bwSqTlo .sq1 v
  else if addr = 0x5006#16 then .bwSqTlo .sq2 v
  else if addr = 0x5003#16 then .bwSqLen .sq1 v
  else if addr = 0x5007#16 then .bwSqLen .sq2 v
  else if addr = 0x5010#16 then .bwDmcCtrl v
  else if addr = 0x5011#16 then .bwDmcDac v
  else if addr = 0x5015#16 then .bwSndEn v
  else if addr = 0x5100#16 then .bwPrgMode v
  else if addr = 0x5101#16 then .bwChrMode v
  else if addr = 0x5102#16 then .bwProtA v
  else if addr = 0x5103#16 then .bwProtB v
  else if addr = 0x5104#16 then .bwExramMode v
  else if addr = 0x5105#16 then .bwNtMap v
  else if addr = 0x5106#16 then .bwFill .tile v
  else if addr = 0x5107#16 then .bwFill .attr v
  else if addr = 0x5113#16 then .bwPrgRamPage v
  else if addr = 0x5130#16 then .bwChrHigh v
  else if addr = 0x5200#16 then .bwSplit .mode v
  else if addr = 0x5201#16 then .bwSplit .scroll v
  else if addr = 0x5202#16 then .bwSplitBank v
  else if addr = 0x5203#16 then .bwIrqTarget v
  else if addr = 0x5204#16 then .bwIrqEnable v
  else if addr = 0x5205#16 then .bwMulA v
  else if addr = 0x5206#16 then .bwMulB v
  else if addr.extractLsb' 2 14 = 0x1445#14 then .bwPrgBank (addr.extractLsb' 0 2) v       -- $5114-$5117
  else if addr.extractLsb' 2 14 = 0x144A#14 then .bwChrBankBg (addr.extractLsb' 0 2) v     -- $5128-$512B
  else if addr.extractLsb' 3 13 = 0x0A24#13 then .bwChrBankSpr (addr.extractLsb' 0 3) v    -- $5120-$5127
  else if addr.extractLsb' 13 3 = 0b011#3 then .bwPrgRamLo (addr.extractLsb' 0 13) v
  else if addr.extractLsb' 15 1 = 0b1#1 then .bwHigh (addr.extractLsb' 0 15) v
  else .bwUnmapped addr v

/-- Decode the fields of a word, by kind (spec/30_encoding.md R111, R117). The zero fields are those of R111 and of
spec/opcode_table.json, whose row SP has zero in bits 27:14. -/
def decodeFields (f : Fields) (cycle : Nat) : Except DecodeError Instr :=
  if f.zero ≠ 0#4 then .error .reservedBits
  else if f.kind = 0#4 then
    if f.data = 0#8 then .ok (decodeRead f.addr) else .error .mustBeZero
  else if f.kind = 1#4 then .ok (decodeWrite f.addr f.data)
  else if f.kind = 2#4 then
    if f.data ≠ 0#8 then .error .mustBeZero
    else if f.addr.extractLsb' 13 3 ≠ 0#3 then .error .addressOutsideRange
    else .ok (.pr (f.addr.extractLsb' 0 13))
  else if f.kind = 3#4 then
    if f.addr.extractLsb' 13 3 ≠ 0#3 then .error .addressOutsideRange
    else .ok (.pw (f.addr.extractLsb' 0 13) f.data)
  else if f.kind = 4#4 then
    if f.data = 0#8 ∧ f.addr = 0#16 then .ok .sc else .error .mustBeZero
  else if f.kind = 5#4 then
    if f.data = 0#8 ∧ f.addr.extractLsb' 14 2 = 0#2 then .ok (.sp cycle (f.addr.extractLsb' 0 14))
    else .error .mustBeZero
  else if f.kind = 6#4 then
    if f.data = 0#8 ∧ f.addr = 0#16 then .ok .am else .error .mustBeZero
  else if f.kind = 7#4 then
    if f.data.extractLsb' 1 7 = 0#7 ∧ f.addr = 0#16 then .ok (.rs (f.data.getLsbD 0)) else .error .mustBeZero
  else if f.kind = 8#4 then
    if f.data.extractLsb' 3 5 = 0#5 ∧ f.addr = 0#16 then .ok (.mkMask (f.data.extractLsb' 0 3)) else .error .mustBeZero
  else if f.kind = 9#4 then
    if f.data = 0#8 then .ok (.dr f.addr) else .error .mustBeZero
  else .error .illegalKind

/-- The operation a word and its side argument encode: total, refusing by name (spec/30_encoding.md R117). -/
def decode (w : OpWord) (cycle : Nat) : Except DecodeError Instr := decodeFields (fieldsOf w) cycle

/-- The address a Square channel's register k stands at (spec/10_state.md R33). -/
def squareAddr (c : Square) (k : BitVec 2) : CpuAddr :=
  match c with
  | .sq1 => 0x1400#14 ++ k        -- $5000 + k
  | .sq2 => 0x1401#14 ++ k        -- $5004 + k

/-- The fields that encode an operation (spec/30_encoding.md R111, R114, R115). -/
def encodeFields : Instr → Fields
  | .brSndStatus => ⟨0, 0, 0, 0x5015⟩
  | .brIrqStatus => ⟨0, 0, 0, 0x5204⟩
  | .brMulLo => ⟨0, 0, 0, 0x5205⟩
  | .brMulHi => ⟨0, 0, 0, 0x5206⟩
  | .brPrgRamLo off => ⟨0, 0, 0, 0b011#3 ++ off⟩
  | .brHigh a => ⟨0, 0, 0, 0b1#1 ++ a⟩
  | .brUndriven addr => ⟨0, 0, 0, addr⟩
  | .bwDmcCtrl v => ⟨1, 0, v, 0x5010⟩
  | .bwDmcDac v => ⟨1, 0, v, 0x5011⟩
  | .bwSndEn v => ⟨1, 0, v, 0x5015⟩
  | .bwPrgMode v => ⟨1, 0, v, 0x5100⟩
  | .bwChrMode v => ⟨1, 0, v, 0x5101⟩
  | .bwProtA v => ⟨1, 0, v, 0x5102⟩
  | .bwProtB v => ⟨1, 0, v, 0x5103⟩
  | .bwExramMode v => ⟨1, 0, v, 0x5104⟩
  | .bwNtMap v => ⟨1, 0, v, 0x5105⟩
  | .bwPrgRamPage v => ⟨1, 0, v, 0x5113⟩
  | .bwChrHigh v => ⟨1, 0, v, 0x5130⟩
  | .bwSplitBank v => ⟨1, 0, v, 0x5202⟩
  | .bwIrqTarget v => ⟨1, 0, v, 0x5203⟩
  | .bwIrqEnable v => ⟨1, 0, v, 0x5204⟩
  | .bwMulA v => ⟨1, 0, v, 0x5205⟩
  | .bwMulB v => ⟨1, 0, v, 0x5206⟩
  | .bwSqCtrl c v => ⟨1, 0, v, squareAddr c 0⟩
  | .bwSqSweep c v => ⟨1, 0, v, squareAddr c 1⟩
  | .bwSqTlo c v => ⟨1, 0, v, squareAddr c 2⟩
  | .bwSqLen c v => ⟨1, 0, v, squareAddr c 3⟩
  | .bwFill .tile v => ⟨1, 0, v, 0x5106⟩
  | .bwFill .attr v => ⟨1, 0, v, 0x5107⟩
  | .bwSplit .mode v => ⟨1, 0, v, 0x5200⟩
  | .bwSplit .scroll v => ⟨1, 0, v, 0x5201⟩
  | .bwPrgBank r v => ⟨1, 0, v, 0x1445#14 ++ r⟩
  | .bwChrBankBg r v => ⟨1, 0, v, 0x144A#14 ++ r⟩
  | .bwChrBankSpr r v => ⟨1, 0, v, 0x0A24#13 ++ r⟩
  | .bwPrgRamLo off v => ⟨1, 0, v, 0b011#3 ++ off⟩
  | .bwHigh a v => ⟨1, 0, v, 0b1#1 ++ a⟩
  | .bwUnmapped addr v => ⟨1, 0, v, addr⟩
  | .pr a => ⟨2, 0, 0, 0#3 ++ a⟩
  | .pw a v => ⟨3, 0, v, 0#3 ++ a⟩
  | .sc => ⟨4, 0, 0, 0⟩
  | .sp _ ppuAddr => ⟨5, 0, 0, 0#2 ++ ppuAddr⟩
  | .am => ⟨6, 0, 0, 0⟩
  | .rs soft => ⟨7, 0, 0#7 ++ BitVec.ofBool soft, 0⟩
  | .mkMask mask => ⟨8, 0, 0#5 ++ mask, 0⟩
  | .dr addr => ⟨9, 0, 0, addr⟩

/-- The operation word of an operation (spec/30_encoding.md R111, R119). -/
def encode (i : Instr) : OpWord := packFields (encodeFields i)

/-- The side argument carried beside the word: `cycle` for SP; nothing reads it for any other operation
(spec/30_encoding.md R111). -/
def sideOf : Instr → Nat
  | .sp cycle _ => cycle
  | _ => 0

/-- The word whose low `nbits` bits are those of `w`, every other bit 0. -/
def tableWord (nbits w : Nat) : OpWord := BitVec.ofNat 32 (w % 2 ^ nbits)

/-- The operation of a word numbered as spec/opcode_table.json numbers it; the side argument it gives no bits is 0. -/
def decodeTableWord (nbits w : Nat) : Option Instr :=
  match decode (tableWord nbits w) 0 with
  | .ok i => some i
  | .error _ => none

end Sys2Proof
end

