-- ==== Sys2Proof/Machine/Operands.lean ====
section
/-!
DEFINITION. The operand fields of a register's data byte and of the operands of the host calls (spec/30_encoding.md R116).
-/
namespace Sys2Proof.Machine

/-- `v[1:0]`: prgMode, chrMode, protA, protB, the ExRAM mode, chrHigh. -/
def lowField (v : Byte) : BitVec 2 := v.extractLsb' 0 2

/-- `v[7]`: the ROM/RAM select, sweepEn, irqEnable, the split enable. -/
def topBit (v : Byte) : Bool := v.getLsbD 7

/-- Quadrant k of `$5105`: `v[2k+1:2k]`. -/
def quadrant (v : Byte) (k : Nat) : BitVec 2 := v.extractLsb' (2 * k) 2

/-- `v[7:6]` of Square control. -/
def dutyField (v : Byte) : BitVec 2 := v.extractLsb' 6 2

/-- `v[5]` of Square control. -/
def haltBit (v : Byte) : Bool := v.getLsbD 5

/-- `v[4]` of Square control. -/
def constVolBit (v : Byte) : Bool := v.getLsbD 4

/-- `v[3:0]` of Square control. -/
def volField (v : Byte) : BitVec 4 := v.extractLsb' 0 4

/-- `v[6:4]` of Square sweep. -/
def sweepPeriodField (v : Byte) : BitVec 3 := v.extractLsb' 4 3

/-- `v[3]` of Square sweep. -/
def sweepNegBit (v : Byte) : Bool := v.getLsbD 3

/-- `v[2:0]`: the sweep shift, or `timerPeriod[10:8]`. -/
def lowThree (v : Byte) : BitVec 3 := v.extractLsb' 0 3

/-- `v[7:3]`: the length-table index. -/
def lengthIndex (v : Byte) : BitVec 5 := v.extractLsb' 3 5

/-- The window of a high address, `addr[14:13]` (spec/40_bank_switch.md R150). -/
def windowOf (a : BitVec 15) : BitVec 2 := a.extractLsb' 13 2

/-- The offset in an 8 KB window, `addr[12:0]`. -/
def windowOffset (a : BitVec 15) : BitVec 13 := a.extractLsb' 0 13

/-- The sprite-set slot of a pattern address, `a[12:10]` (spec/40_bank_switch.md R156). -/
def spriteSlot (a : PatternAddr) : BitVec 3 := a.extractLsb' 10 3

/-- The background-set slot of a pattern address, less 8: `a[11:10]`. -/
def backgroundSlot (a : PatternAddr) : BitVec 2 := a.extractLsb' 10 2

/-- The offset in a 1 KB window, `a[9:0]`. -/
def patternOffset (a : PatternAddr) : BitVec 10 := a.extractLsb' 0 10

end Sys2Proof.Machine
end

