-- ==== Sys2Proof/Config.lean ====
section
/-!
DEFINITION. What the cartridge, the console and the implementation fix (spec/00_scope.md R8), and the free values.
Every parameter is an opaque constant with no body: a theorem holds whatever legal values they have
(notes/assumptions/2.md to 6.md, 8.md).
-/
namespace Sys2Proof

/-- The parameters of spec/00_scope.md R8, with the conditions that make them legal carried as proofs: a unit with
illegal parameters cannot be built (spec/60_exceptions.md R403). -/
structure Params where
  /-- `PRG_ROM_PAGES`: 8 KB pages of PRG-ROM. -/
  prgRomPages : Nat
  /-- `PRG_RAM_PAGES`: 8 KB pages of PRG-RAM. -/
  prgRamPages : Nat
  /-- `CHR_PAGES`: 1 KB pages of CHR memory. -/
  chrPages : Nat
  /-- `CHR_WRITABLE`: the CHR memory is RAM. -/
  chrWritable : Bool
  /-- `HIGH_RAM_PROTECTED`: the latch also gates PRG-RAM mapped at `$8000-$DFFF`. -/
  highRamProtected : Bool
  /-- `CHR_REDERIVE_ON_MODE_WRITE`. -/
  chrRederiveOnModeWrite : Bool
  /-- `SPR_COL_LO`. -/
  sprColLo : Int
  /-- `SPR_COL_HI`. -/
  sprColHi : Int
  /-- `LINE_P`: the penultimate visible line. -/
  lineP : Int
  /-- `IRQ_MATCH_COLUMN`. -/
  irqMatchColumn : Option Int
  /-- `SQUARE_SWEEP`. -/
  squareSweep : Bool
  /-- `QUARTER_PERIOD`. -/
  quarterPeriod : Nat
  /-- `HALF_DIV`. -/
  halfDiv : Nat
  /-- `DMC_MASK`. -/
  dmcMask : Byte
  /-- `MIX_SCALE`. -/
  mixScale : Rat
  /-- `PPU_PER_CPU`: the caller's duty; no rule of the unit reads it (spec/20_memory.md R91). -/
  ppuPerCpu : Nat
  /-- `cycleToRasterLine`, of the external PPU core. -/
  cycleToRasterLine : Nat → Int
  /-- `cycleToRasterColumn`, of the external PPU core. -/
  cycleToRasterColumn : Nat → Nat
  /-- `PRG_ROM`: the byte at each offset below `prgRomPages * 8192`. -/
  prgRom : Nat → Byte
  /-- `CHR_ROM`: the byte at each offset below `chrPages * 1024`. -/
  chrRom : Nat → Byte
  /-- The draw each PRG-RAM byte holds at power-on (spec/70_reset_and_hazards.md R432). -/
  prgRamPowerOn : Nat → Byte
  /-- The draw each CHR byte holds at power-on when the CHR memory is RAM (spec/70_reset_and_hazards.md R432). -/
  chrRamPowerOn : Nat → Byte
  /-- The n-th draw of a byte, `OPEN_BUS` among them (spec/46_register_bank_misc.md R383, spec/40_bank_switch.md R158). -/
  draw : Nat → Byte
  /-- Whether the optional observer of an interrupt assertion is there (spec/42_irq_scanline.md R233). -/
  notifiesObserver : Bool
  prgRomPages_pos : 0 < prgRomPages
  prgRamPages_pow : ∃ k, k ≤ 7 ∧ prgRamPages = 2 ^ k
  chrPages_pos : 0 < chrPages
  quarterPeriod_pos : 0 < quarterPeriod
  halfDiv_pos : 0 < halfDiv
  dmcMask_legal : dmcMask = 0x7F#8 ∨ dmcMask = 0xFF#8
  mixScale_pos : 0 < mixScale
  ppuPerCpu_pos : 0 < ppuPerCpu

namespace Config

/-- `PRG_ROM_PAGES - 1`: any number of pages from 1 up. -/
opaque prgRomPagesLessOne : Nat
/-- The binary logarithm of `PRG_RAM_PAGES`: 1 to 128 pages. -/
opaque prgRamPagesLog2 : Fin 8
/-- `CHR_PAGES - 1`. -/
opaque chrPagesLessOne : Nat
opaque chrWritable : Bool
opaque highRamProtected : Bool
opaque chrRederiveOnModeWrite : Bool
opaque sprColLo : Int
opaque sprColHi : Int
opaque lineP : Int
opaque irqMatchColumn : Option Int
opaque squareSweep : Bool
/-- `QUARTER_PERIOD - 1`. -/
opaque quarterPeriodLessOne : Nat
/-- `HALF_DIV - 1`. -/
opaque halfDivLessOne : Nat
/-- Whether `DMC_MASK` is 0xFF (else 0x7F). -/
opaque dmcMaskIsWide : Bool
/-- The numerator of `MIX_SCALE`, less one. -/
opaque mixScaleNumLessOne : Nat
/-- The denominator of `MIX_SCALE`, less one. -/
opaque mixScaleDenLessOne : Nat
/-- `PPU_PER_CPU - 1`. -/
opaque ppuPerCpuLessOne : Nat
opaque cycleToRasterLine : Nat → Int
opaque cycleToRasterColumn : Nat → Nat
opaque prgRom : Nat → Byte
opaque chrRom : Nat → Byte
/-- Free value: PRG-RAM at power-on. -/
opaque prgRamPowerOn : Nat → Byte
/-- Free value: CHR RAM at power-on. -/
opaque chrRamPowerOn : Nat → Byte
/-- Free value: the n-th byte the unit does not determine. -/
opaque draw : Nat → Byte
opaque notifiesObserver : Bool

/-- The unit's parameters: any legal values (spec/00_scope.md R8). -/
def params : Params where
  prgRomPages := prgRomPagesLessOne + 1
  -- Written as a successor, so that the kernel sees that page 0 exists.
  prgRamPages := (2 ^ prgRamPagesLog2.val - 1) + 1
  chrPages := chrPagesLessOne + 1
  chrWritable := chrWritable
  highRamProtected := highRamProtected
  chrRederiveOnModeWrite := chrRederiveOnModeWrite
  sprColLo := sprColLo
  sprColHi := sprColHi
  lineP := lineP
  irqMatchColumn := irqMatchColumn
  squareSweep := squareSweep
  quarterPeriod := quarterPeriodLessOne + 1
  halfDiv := halfDivLessOne + 1
  dmcMask := if dmcMaskIsWide then 0xFF#8 else 0x7F#8
  mixScale := ((mixScaleNumLessOne + 1 : Nat) : Rat) / ((mixScaleDenLessOne + 1 : Nat) : Rat)
  ppuPerCpu := ppuPerCpuLessOne + 1
  cycleToRasterLine := cycleToRasterLine
  cycleToRasterColumn := cycleToRasterColumn
  prgRom := prgRom
  chrRom := chrRom
  prgRamPowerOn := prgRamPowerOn
  chrRamPowerOn := chrRamPowerOn
  draw := draw
  notifiesObserver := notifiesObserver
  prgRomPages_pos := Nat.succ_pos _
  prgRamPages_pow := ⟨prgRamPagesLog2.val, by omega, Nat.sub_add_cancel Nat.one_le_two_pow⟩
  chrPages_pos := Nat.succ_pos _
  quarterPeriod_pos := Nat.succ_pos _
  halfDiv_pos := Nat.succ_pos _
  dmcMask_legal := by split <;> simp
  mixScale_pos := by positivity
  ppuPerCpu_pos := Nat.succ_pos _

end Config

/-- The default column of spec/00_scope.md R8 over the parameters that have no default (the sizes, the images, the
raster functions and the draws, taken from `open_`). The unit's own parameters are `Config.params`; this is what a
caller who follows the spec's suggestions would supply. -/
def Params.withDefaults (open_ : Params) : Params :=
  { open_ with
    chrWritable := false
    highRamProtected := true
    chrRederiveOnModeWrite := true
    sprColLo := 256
    sprColHi := 319
    lineP := 238
    irqMatchColumn := none
    squareSweep := true
    quarterPeriod := 7457
    halfDiv := 1
    dmcMask := 0x7F#8
    mixScale := 16384
    ppuPerCpu := 3
    quarterPeriod_pos := by decide
    halfDiv_pos := by decide
    dmcMask_legal := .inl rfl
    mixScale_pos := by norm_num
    ppuPerCpu_pos := by decide }

end Sys2Proof
end

