-- ==== Sys2Proof/Machine/State.lean ====
section
/-!
DEFINITION. The unit's state as plain data, holding every piece of state of spec/10_state.md, and its value when the unit
is created (spec/70_reset_and_hazards.md R430, R433).
-/
namespace Sys2Proof.Machine

/-- What a PRG window maps (spec/10_state.md R39). -/
inductive PrgKind where
  | rom
  | ram
deriving DecidableEq, Repr

/-- One entry of the PRG window table: a page of 8 KB of one memory (spec/10_state.md R39). -/
structure PrgWindow where
  kind : PrgKind
  page : Nat
deriving DecidableEq, Repr

/-- The fields of one Square channel (spec/10_state.md R49). -/
structure SquareChan where
  duty         : BitVec 2
  halt         : Bool
  constVol     : Bool
  vol          : BitVec 4
  sweepEn      : Bool
  sweepPeriod  : BitVec 3
  sweepNeg     : Bool
  sweepShift   : BitVec 3
  sweepReload  : Bool
  sweepDivider : BitVec 3
  timerPeriod  : BitVec 11
  timerCounter : BitVec 11
  seqPos       : BitVec 3
  length       : BitVec 8
  envStart     : Bool
  envDivider   : BitVec 4
  envDecay     : BitVec 4
  enabled      : Bool
deriving DecidableEq, Repr

/-- Every field of a Square channel at reset (spec/10_state.md R49). -/
def SquareChan.zero : SquareChan where
  duty := 0
  halt := false
  constVol := false
  vol := 0
  sweepEn := false
  sweepPeriod := 0
  sweepNeg := false
  sweepShift := 0
  sweepReload := false
  sweepDivider := 0
  timerPeriod := 0
  timerCounter := 0
  seqPos := 0
  length := 0
  envStart := false
  envDivider := 0
  envDecay := 0
  enabled := false

/-- A memory that can be written: the bytes that differ from what an unlisted offset reads as, offsets strictly rising. -/
abbrev Memory := List Host.Cell

/-- A call not yet made: its operation word and the side argument beside it (spec/30_encoding.md R111;
notes/assumptions/1.md). -/
structure Call where
  word  : OpWord
  cycle : Nat
deriving DecidableEq, Repr

/-- What a call returns (notes/assumptions/7.md). -/
inductive Reply where
  /-- The call returns no value. -/
  | nothing
  /-- The byte of a bus or pattern read. -/
  | byte (v : Byte)
  /-- The sample of `computeAudioAmplitude` (spec/44_mixer.md R330). -/
  | sample (y : Int)
  /-- The result of `debugReadRegister`, `none` where there is no register (spec/46_register_bank_misc.md R384). -/
  | register (v : Option Byte)
deriving DecidableEq, Repr

/-- A call of the unit to an external collaborator (spec/00_scope.md R11; notes/assumptions/8.md). -/
inductive ExtCall where
  /-- `assertInterrupt(MAPPER)`. -/
  | assertInterrupt
  /-- `releaseInterrupt(MAPPER)`. -/
  | releaseInterrupt
  /-- `mirrorConfigure(q0, q1, q2, q3)`. -/
  | mirrorConfigure (q0 q1 q2 q3 : BitVec 2)
  /-- `notifyIrqObserver()`. -/
  | notifyIrqObserver
deriving DecidableEq, Repr

/-- The state of the unit (spec/10_state.md) and, last, the model's own fields (notes/assumptions/1.md, 3.md, 7.md, 8.md). -/
structure State where
  /-- The 44 raw registers (R33). -/
  reg          : Vector Byte 44
  /-- PRG scheme (R35). -/
  prgMode      : BitVec 2
  /-- CHR granularity (R36). -/
  chrMode      : BitVec 2
  /-- The two high CHR bank bits (R37). -/
  chrHigh      : BitVec 2
  /-- `chrHigh` at the last write of each CHR bank register (R38). -/
  chrHi        : Vector (BitVec 2) 12
  /-- The PRG window table (R39). -/
  prgWin       : Vector PrgWindow 4
  /-- The PRG-RAM page at `$6000-$7FFF` (R40). -/
  lowRamPage   : Nat
  /-- The CHR slot table, page numbers before the wrap (R41). -/
  chrSlot      : Vector Nat 12
  /-- Write-protect field A (R42). -/
  protA        : BitVec 2
  /-- Write-protect field B (R42). -/
  protB        : BitVec 2
  /-- The IRQ status byte: bit 7 pending, bit 6 not-in-frame (R43). -/
  irqStatus    : Byte
  /-- The IRQ enable flag (R44). -/
  irqEnable    : Bool
  /-- The IRQ target scanline (R45). -/
  irqTarget    : Byte
  /-- Whether the unit asserts the CPU interrupt line (R46). -/
  irqLine      : Bool
  /-- The PPU cycle counter of the last `syncPpuCycle` (R47). -/
  ppuCycle     : Nat
  /-- Multiplier operand A (R48). -/
  mulA         : Byte
  /-- Multiplier operand B (R48). -/
  mulB         : Byte
  /-- The product (R48). -/
  product      : BitVec 16
  /-- Square channel 1 (R49). -/
  sq1          : SquareChan
  /-- Square channel 2 (R49). -/
  sq2          : SquareChan
  /-- The last value written to `$5010` (R50). -/
  dmcCtrl      : Byte
  /-- The DMC's DAC level (R50). -/
  dmcDac       : Byte
  /-- The DMC's enable, constant 1 (R50). -/
  dmcEnabled   : Bool
  /-- Which of two CPU cycles clocks the Square timers (R51). -/
  apuParity    : Bool
  /-- The frame divider (R51). -/
  frameCtr     : Nat
  /-- Quarter-frame events since the last half-frame event (R51). -/
  quarterCount : Nat
  /-- `buf[0]`: the DAC samples of Square 1, oldest first (R52). -/
  sq1Buf       : List Nat
  /-- `buf[1]`: the DAC samples of Square 2 (R52). -/
  sq2Buf       : List Nat
  /-- `buf[2]`: the DAC samples of the DMC (R52). -/
  dmcBuf       : List Nat
  /-- The number of samples in each buffer (R52). -/
  sampleCount  : Nat
  /-- The previous output of the smoothing filter (R53). -/
  mixPrev      : Int
  /-- The channels the host makes audible (R54). -/
  chanMask     : BitVec 3
  /-- PRG-RAM (R55). -/
  prgRam       : Memory
  /-- CHR memory (R55). -/
  chrMem       : Memory
  /-- The model's own: the calls still to be made, the next first. -/
  calls        : List Call
  /-- The model's own: what the last call returned. -/
  reply        : Reply
  /-- The model's own: the external calls the last call made, in order. -/
  extCalls     : List ExtCall
  /-- The model's own: how many bytes have been drawn. -/
  drawCtr      : Nat
deriving DecidableEq, Repr

/-- Why the machine stops. -/
inductive Fault where
  /-- An offset outside its memory was formed (spec/60_exceptions.md R402). Raised by the accesses to PRG-ROM and PRG-RAM
  when a window's page lies outside its memory, which no run from reset reaches. SAFE: the machine stops. -/
  | indexOutOfRange
deriving DecidableEq, Repr

/-- Why a call has no meaning. -/
inductive Refusal where
  /-- An operation the model gives no meaning yet. SAFE: nothing is claimed of it. -/
  | notModelled (mnemonic : String)
  /-- The word is no legal operation word (spec/30_encoding.md R117). Raised by `step`. SAFE: the spec refuses it too. -/
  | illegalOperationWord
  /-- The address lies outside the range of its entry point (spec/20_memory.md R81). Raised by `step` for PR and PW and by
  the meanings of BR_UNDRIVEN and BW_UNMAPPED below `$4020`. SAFE: the spec refuses it too. -/
  | addressOutsideEntryPointRange
deriving DecidableEq, Repr

/-- The reset raw values of the register bank (spec/10_state.md R33). -/
def resetRaw : Vector Byte 44 :=
  #v[0x00, 0x00, 0x00, 0x00, 0x00, 0x00, 0x00, 0x00, 0x00, 0x00, 0x00,   -- $5000-$5007, $5010, $5011, $5015
     0x03, 0x00, 0x00, 0x00, 0x00, 0x00, 0x00, 0x00,                     -- $5100-$5107
     0x00, 0xFF, 0xFF, 0xFF, 0xFF,                                       -- $5113-$5117
     0x00, 0x00, 0x00, 0x00, 0x00, 0x00, 0x00, 0x00, 0x00, 0x00, 0x00, 0x00,  -- $5120-$512B
     0x00,                                                               -- $5130
     0x00, 0x00, 0x00, 0x00, 0x00, 0x00, 0x00]                           -- $5200-$5206

/-- The unit as it is created (spec/70_reset_and_hazards.md R433): the state `reset(false)` establishes, all three
channels audible, no memory byte written, and no call waiting. -/
def State.reset : State where
  reg := resetRaw
  prgMode := 3
  chrMode := 0
  chrHigh := 0
  chrHi := Vector.replicate 12 0
  prgWin := Vector.replicate 4 ⟨.rom, 0x7F % Config.params.prgRomPages⟩
  lowRamPage := 0
  chrSlot := #v[0, 1, 2, 3, 4, 5, 6, 7, 0, 1, 2, 3]
  protA := 0
  protB := 0
  irqStatus := 0
  irqEnable := false
  irqTarget := 0
  irqLine := false
  ppuCycle := 0
  mulA := 0
  mulB := 0
  product := 0
  sq1 := SquareChan.zero
  sq2 := SquareChan.zero
  dmcCtrl := 0
  dmcDac := 0
  dmcEnabled := true
  apuParity := false
  frameCtr := 0
  quarterCount := 0
  sq1Buf := []
  sq2Buf := []
  dmcBuf := []
  sampleCount := 0
  mixPrev := 0
  chanMask := 0b111
  prgRam := []
  chrMem := []
  calls := []
  reply := .nothing
  extCalls := [.releaseInterrupt, .mirrorConfigure 0 0 0 0]
  drawCtr := 0

end Sys2Proof.Machine
end

