-- ==== Sys2Proof/Machine/Ops.lean ====
section
/-!
DEFINITION. The operations every meaning is built from: the beginning and the end of a call, draws, the raw registers, the
memories, the interrupt line. The unit takes no exception (spec/60_exceptions.md R400, R405): its part in one is the
interrupt line, driven and released here.
-/
namespace Sys2Proof.Machine

/-! ### A call: its beginning, its external calls, its end -/

/-- A call begins: it has made no external call yet. -/
def startCall (s : State) : State := { s with extCalls := [] }

/-- The unit calls an external collaborator (spec/00_scope.md R11). -/
def callOut (x : ExtCall) (s : State) : State := { s with extCalls := s.extCalls ++ [x] }

/-- A call ends and returns `r`. -/
def complete (r : Reply) (s : State) : Host.Outcome State Fault Refusal := .next { s with reply := r }

/-- A read ends: with its byte, or with the fault of spec/60_exceptions.md R402 where its offset lies outside the memory. -/
def completeRead (b : Option Byte) (s : State) : Host.Outcome State Fault Refusal :=
  match b with
  | some v => complete (.byte v) s
  | none => .fault .indexOutOfRange

/-- A write ends: with the state after it, or with the fault of spec/60_exceptions.md R402. -/
def completeWrite (t : Option State) : Host.Outcome State Fault Refusal :=
  match t with
  | some s => complete .nothing s
  | none => .fault .indexOutOfRange

/-- A read ends with a byte the unit does not determine: the next draw (spec/46_register_bank_misc.md R383). -/
def completeDraw (p : Params) (s : State) : Host.Outcome State Fault Refusal :=
  complete (.byte (p.draw s.drawCtr)) { s with drawCtr := s.drawCtr + 1 }

/-! ### The register bank (spec/10_state.md R33, R34) -/

/-- `reg[i]`. -/
def getReg (s : State) (i : Fin 44) : Byte := s.reg[i.val]

/-- `reg[i] <- v`. -/
def setReg (i : Fin 44) (v : Byte) (s : State) : State := { s with reg := s.reg.set i.val v }

/-! ### Memories (spec/20_memory.md R82) -/

/-- The byte listed at an offset. -/
def Memory.lookup : Memory → Nat → Option Byte
  | [], _ => none
  | (b, w) :: rest, a => if a = b then some w else Memory.lookup rest a

/-- List a byte at an offset, keeping the offsets rising. -/
def Memory.insert : Memory → Nat → Byte → Memory
  | [], a, v => [(a, v)]
  | (b, w) :: rest, a, v =>
    if a < b then (a, v) :: (b, w) :: rest
    else if a = b then (a, v) :: rest
    else (b, w) :: Memory.insert rest a v

/-- List no byte at an offset. -/
def Memory.remove : Memory → Nat → Memory
  | [], _ => []
  | (b, w) :: rest, a => if a = b then Memory.remove rest a else (b, w) :: Memory.remove rest a

/-- The byte at an offset; an unlisted offset reads as `unlisted` says. -/
def Memory.read (unlisted : Nat → Byte) (m : Memory) (a : Nat) : Byte :=
  match Memory.lookup m a with
  | some v => v
  | none => unlisted a

/-- Write a byte, keeping the canonical form: a byte equal to what an unlisted offset reads as is not listed. -/
def Memory.write (unlisted : Nat → Byte) (m : Memory) (a : Nat) (v : Byte) : Memory :=
  if v = unlisted a then Memory.remove m a else Memory.insert m a v

/-- An offset lies above a lower bound, where there is one. -/
def Memory.aboveBound (lo : Option Nat) (a : Nat) : Bool :=
  match lo with
  | none => true
  | some b => decide (b < a)

/-- The canonical form: offsets strictly rising (each above `lo`), no entry equal to what its offset reads as unlisted. -/
def Memory.wfAbove (unlisted : Nat → Byte) : Option Nat → Memory → Bool
  | _, [] => true
  | lo, (a, v) :: rest =>
    Memory.aboveBound lo a && decide (v ≠ unlisted a) && Memory.wfAbove unlisted (some a) rest

/-- The canonical form of a memory. -/
def Memory.wf (unlisted : Nat → Byte) (m : Memory) : Bool := Memory.wfAbove unlisted none m

/-- `RomRead(off)`; none outside the memory (its 8 KB page is none of the PRG-ROM's pages, spec/60_exceptions.md R402;
notes/assumptions/13.md). -/
def romRead (p : Params) (off : Nat) : Option Byte :=
  if off / 8192 < p.prgRomPages then some (p.prgRom off) else none

/-- `RamRead(off)`; none outside the memory. -/
def ramRead (p : Params) (s : State) (off : Nat) : Option Byte :=
  if off / 8192 < p.prgRamPages then some (Memory.read p.prgRamPowerOn s.prgRam off) else none

/-- `RamWrite(off, v)`; none outside the memory. -/
def ramWrite (p : Params) (off : Nat) (v : Byte) (s : State) : Option State :=
  if off / 8192 < p.prgRamPages then some { s with prgRam := Memory.write p.prgRamPowerOn s.prgRam off v } else none

/-- `ChrRead(off)`: the image of a CHR ROM, the written memory of a CHR RAM. Its offset is below `chrPages * 1024` in
every state (spec/40_bank_switch.md R157). -/
def chrMemRead (p : Params) (s : State) (off : Nat) : Byte :=
  if p.chrWritable then Memory.read p.chrRamPowerOn s.chrMem off else p.chrRom off

/-- `ChrWrite(off, v)`, of a CHR RAM. -/
def chrMemWrite (p : Params) (off : Nat) (v : Byte) (s : State) : State :=
  { s with chrMem := Memory.write p.chrRamPowerOn s.chrMem off v }

/-! ### The interrupt line (spec/10_state.md R46) -/

/-- `assertInterrupt(MAPPER); irqLine <- 1`. -/
def assertLine (s : State) : State := callOut .assertInterrupt { s with irqLine := true }

/-- `releaseInterrupt(MAPPER); irqLine <- 0`. -/
def releaseLine (s : State) : State := callOut .releaseInterrupt { s with irqLine := false }

/-! ### Square channels (spec/10_state.md R49) -/

/-- `sq[c]`. -/
def getSquare (s : State) (c : Square) : SquareChan :=
  match c with
  | .sq1 => s.sq1
  | .sq2 => s.sq2

/-- Change `sq[c]`. -/
def updSquare (c : Square) (f : SquareChan → SquareChan) (s : State) : State :=
  match c with
  | .sq1 => { s with sq1 := f s.sq1 }
  | .sq2 => { s with sq2 := f s.sq2 }

end Sys2Proof.Machine
end

