-- ==== Sys2Proof/Machine/Apu.lean ====
section
/-!
DEFINITION. The APU channel units: two Square channels and the DMC (spec/43_apu_channels.md).
-/
namespace Sys2Proof.Machine

/-! ### Tables -/

/-- The length table (R278). -/
def lengthTable : List Byte :=
  [10, 254, 20, 2, 40, 4, 80, 6, 160, 8, 60, 10, 14, 12, 26, 14,
   12, 16, 24, 18, 48, 20, 96, 22, 192, 24, 72, 26, 16, 28, 32, 30]

/-- `LENGTH[i]` (R278). -/
def lengthOf (i : BitVec 5) : Byte := lengthTable[i.toNat]'(i.isLt)

/-- The duty table, one row per duty, the position rising from 0 (R279). -/
def dutyTable : List (List Bool) :=
  [[false, true,  false, false, false, false, false, false],
   [false, true,  true,  false, false, false, false, false],
   [false, true,  true,  true,  true,  false, false, false],
   [true,  false, false, true,  true,  true,  true,  true]]

/-- `DUTY[d][pos]` is 1 (R279). -/
def dutyBit (d : BitVec 2) (pos : BitVec 3) : Bool := (dutyTable.getD d.toNat []).getD pos.toNat false

/-! ### Register writes -/

/-- A Square control write's effect on its channel (R260). -/
def squareControl (v : Byte) (q : SquareChan) : SquareChan :=
  { q with duty := dutyField v, halt := haltBit v, constVol := constVolBit v, vol := volField v }

/-- A Square sweep write's effect on its channel (R261). -/
def squareSweepWrite (v : Byte) (q : SquareChan) : SquareChan :=
  { q with sweepEn := topBit v, sweepPeriod := sweepPeriodField v, sweepNeg := sweepNegBit v,
           sweepShift := lowThree v, sweepReload := true }

/-- A Square timer low write's effect on its channel (R262). -/
def squareTimerLow (v : Byte) (q : SquareChan) : SquareChan :=
  { q with timerPeriod := q.timerPeriod.extractLsb' 8 3 ++ v }

/-- A Square length and timer high write's effect on its channel (R263): the length is loaded only while enabled. -/
def squareLength (v : Byte) (q : SquareChan) : SquareChan :=
  { q with timerPeriod := lowThree v ++ q.timerPeriod.extractLsb' 0 8
           length := if q.enabled then lengthOf (lengthIndex v) else q.length
           seqPos := 0
           envStart := true }

/-- A channel's enable bit is written (R266): disabling zeroes the length. -/
def squareEnable (b : Bool) (q : SquareChan) : SquareChan :=
  { q with enabled := b, length := if b then q.length else 0 }

/-- BW_SQ_CTRL (R260). -/
def execBwSqCtrl (c : Square) (v : Byte) (s : State) : Host.Outcome State Fault Refusal :=
  complete .nothing (updSquare c (squareControl v) (setReg (rSquare c 0) v (startCall s)))

/-- BW_SQ_SWEEP (R261). -/
def execBwSqSweep (c : Square) (v : Byte) (s : State) : Host.Outcome State Fault Refusal :=
  complete .nothing (updSquare c (squareSweepWrite v) (setReg (rSquare c 1) v (startCall s)))

/-- BW_SQ_TLO (R262). -/
def execBwSqTlo (c : Square) (v : Byte) (s : State) : Host.Outcome State Fault Refusal :=
  complete .nothing (updSquare c (squareTimerLow v) (setReg (rSquare c 2) v (startCall s)))

/-- BW_SQ_LEN (R263). -/
def execBwSqLen (c : Square) (v : Byte) (s : State) : Host.Outcome State Fault Refusal :=
  complete .nothing (updSquare c (squareLength v) (setReg (rSquare c 3) v (startCall s)))

/-- BW_DMC_CTRL (R264): stored, no other effect. -/
def execBwDmcCtrl (v : Byte) (s : State) : Host.Outcome State Fault Refusal :=
  complete .nothing { setReg rDmcCtrl v (startCall s) with dmcCtrl := v }

/-- BW_DMC_DAC (R265). -/
def execBwDmcDac (v : Byte) (s : State) : Host.Outcome State Fault Refusal :=
  complete .nothing { setReg rDmcRaw v (startCall s) with dmcDac := v &&& Config.params.dmcMask }

/-- BW_SND_EN (R266). -/
def execBwSndEn (v : Byte) (s : State) : Host.Outcome State Fault Refusal :=
  complete .nothing
    (updSquare .sq2 (squareEnable (v.getLsbD 1))
      (updSquare .sq1 (squareEnable (v.getLsbD 0)) (setReg rSndEn v (startCall s))))

/-- The channel status byte (R267). -/
def soundStatus (s : State) : Byte :=
  (if 0 < s.sq2.length.toNat then 2#8 else 0#8) ||| (if 0 < s.sq1.length.toNat then 1#8 else 0#8)

/-- BR_SND_STATUS (R267). -/
def execBrSndStatus (s : State) : Host.Outcome State Fault Refusal :=
  complete (.byte (soundStatus s)) (startCall s)

/-! ### Clocking -/

/-- `TimerClock(c)` (R269). -/
def timerClock (q : SquareChan) : SquareChan :=
  if q.timerCounter = 0#11 then { q with timerCounter := q.timerPeriod, seqPos := q.seqPos + 7#3 }
  else { q with timerCounter := q.timerCounter - 1#11 }

/-- `EnvelopeClock(c)` (R271). -/
def envelopeClock (q : SquareChan) : SquareChan :=
  if q.envStart then { q with envStart := false, envDecay := 15#4, envDivider := q.vol }
  else if q.envDivider = 0#4 then
    { q with envDivider := q.vol
             envDecay := if 0 < q.envDecay.toNat then q.envDecay - 1#4 else if q.halt then 15#4 else q.envDecay }
  else { q with envDivider := q.envDivider - 1#4 }

/-- `change(c)` (R272). -/
def sweepChange (q : SquareChan) : Nat := q.timerPeriod.toNat >>> q.sweepShift.toNat

/-- `target(c)` (R272): Square 1 negates in ones' complement. -/
def sweepTarget (c : Square) (q : SquareChan) : Int :=
  if q.sweepNeg then
    (q.timerPeriod.toNat : Int) - sweepChange q -
      (match c with
        | .sq1 => 1
        | .sq2 => 0)
  else (q.timerPeriod.toNat : Int) + sweepChange q

/-- `sweepMute(c)` (R272). -/
def sweepMute (p : Params) (c : Square) (q : SquareChan) : Bool :=
  p.squareSweep && (decide (q.timerPeriod.toNat < 8) || decide (0x7FF < sweepTarget c q))

/-- The condition under which `SweepClock` writes the timer period (R273). -/
def sweepFires (p : Params) (c : Square) (q : SquareChan) : Bool :=
  decide (q.sweepDivider = 0#3) && q.sweepEn && decide (q.sweepShift ≠ 0#3) && !sweepMute p c q

/-- `SweepClock(c)` (R273): the target and the mute are those before any write of this call. DEDUCED: the pseudocode is
followed where the rule's own bound on a written target differs (notes/assumptions/15.md). -/
def sweepClock (p : Params) (c : Square) (q : SquareChan) : SquareChan :=
  if p.squareSweep then
    { q with
      timerPeriod := if sweepFires p c q then BitVec.ofInt 11 (sweepTarget c q) else q.timerPeriod
      sweepDivider := if q.sweepDivider = 0#3 ∨ q.sweepReload then q.sweepPeriod else q.sweepDivider - 1#3
      sweepReload := if q.sweepDivider = 0#3 ∨ q.sweepReload then false else q.sweepReload }
  else q

/-- `LengthClock(c)` (R274). -/
def lengthClock (q : SquareChan) : SquareChan :=
  if q.halt = false ∧ 0 < q.length.toNat then { q with length := q.length - 1#8 } else q

/-- Clock a channel's length and then its sweep (R270). -/
def halfFrameClock (p : Params) (c : Square) (q : SquareChan) : SquareChan := sweepClock p c (lengthClock q)

/-- `QuarterFrame()` (R270). -/
def quarterFrame (p : Params) (s : State) : State :=
  let s' := { s with sq1 := envelopeClock s.sq1, sq2 := envelopeClock s.sq2 }
  if s.quarterCount + 1 = p.halfDiv then
    { s' with quarterCount := 0, sq1 := halfFrameClock p .sq1 s'.sq1, sq2 := halfFrameClock p .sq2 s'.sq2 }
  else { s' with quarterCount := s.quarterCount + 1 }

/-- The frame divider's part of a CPU cycle (R268). -/
def frameDivide (p : Params) (s : State) : State :=
  if s.frameCtr + 1 = p.quarterPeriod then quarterFrame p { s with frameCtr := 0 }
  else { s with frameCtr := s.frameCtr + 1 }

/-- The timers' part of a CPU cycle: every second cycle, then the parity toggles (R268). -/
def clockTimers (s : State) : State :=
  if s.apuParity then { s with sq1 := timerClock s.sq1, sq2 := timerClock s.sq2, apuParity := false }
  else { s with apuParity := true }

/-! ### DAC output -/

/-- `SqOut(c)` (R275). -/
def squareOut (p : Params) (c : Square) (q : SquareChan) : Nat :=
  if q.length = 0#8 ∨ sweepMute p c q ∨ dutyBit q.duty q.seqPos = false then 0
  else if q.constVol then q.vol.toNat else q.envDecay.toNat

/-- The mask bit of a Square channel (spec/10_state.md R54). -/
def squareAudible (s : State) (c : Square) : Bool :=
  match c with
  | .sq1 => s.chanMask.getLsbD 0
  | .sq2 => s.chanMask.getLsbD 1

/-- `Sample(c)` (R275). -/
def squareSample (p : Params) (s : State) (c : Square) : Nat :=
  if squareAudible s c then squareOut p c (getSquare s c) else 0

/-- `DmcSample()` (R280). -/
def dmcSample (s : State) : Nat := if s.chanMask.getLsbD 2 then s.dmcDac.toNat else 0

/-- Append one sample to each buffer (R268). -/
def appendSamples (p : Params) (s : State) : State :=
  { s with
    sq1Buf := s.sq1Buf ++ [squareSample p s .sq1]
    sq2Buf := s.sq2Buf ++ [squareSample p s .sq2]
    dmcBuf := s.dmcBuf ++ [dmcSample s]
    sampleCount := s.sampleCount + 1 }

/-- `syncCpuCycle()` (R268). -/
def syncCpu (p : Params) (s : State) : State := appendSamples p (clockTimers (frameDivide p s))

/-- SC (R268). -/
def execSc (s : State) : Host.Outcome State Fault Refusal :=
  complete .nothing (syncCpu Config.params (startCall s))

/-! ### Host control -/

/-- MK (R277). -/
def execMkMask (mask : BitVec 3) (s : State) : Host.Outcome State Fault Refusal :=
  complete .nothing { startCall s with chanMask := mask }

end Sys2Proof.Machine
end

