-- ==== Sys2Proof/Machine/Protect.lean ====
section
/-!
DEFINITION. The write-protect latch and the low PRG-RAM window (spec/41_write_protect.md).
-/
namespace Sys2Proof.Machine

/-- `unlocked()` (R202): exactly the pair (2, 1). -/
def unlocked (s : State) : Bool := s.protA = 2#2 && s.protB = 1#2

/-- BW_PROT_A (R200). -/
def execBwProtA (v : Byte) (s : State) : Host.Outcome State Fault Refusal :=
  complete .nothing { setReg rProtA v (startCall s) with protA := lowField v }

/-- BW_PROT_B (R201). -/
def execBwProtB (v : Byte) (s : State) : Host.Outcome State Fault Refusal :=
  complete .nothing { setReg rProtB v (startCall s) with protB := lowField v }

/-- The PRG-RAM offset of an address in the low window (R203). -/
def lowRamOffset (s : State) (off : BitVec 13) : Nat := s.lowRamPage * 8192 + off.toNat

/-- BR_PRG_RAM_LO (R203): never gated by the latch. -/
def execBrPrgRamLo (off : BitVec 13) (s : State) : Host.Outcome State Fault Refusal :=
  completeRead (ramRead Config.params s (lowRamOffset s off)) (startCall s)

/-- What a low PRG-RAM write does (R204): nothing while locked. -/
def lowRamWrite (p : Params) (off : BitVec 13) (v : Byte) (s : State) : Option State :=
  if unlocked s then ramWrite p (lowRamOffset s off) v s else some s

/-- BW_PRG_RAM_LO at `$6000-$7FFF` (R204). -/
def execBwPrgRamLo (off : BitVec 13) (v : Byte) (s : State) : Host.Outcome State Fault Refusal :=
  completeWrite (lowRamWrite Config.params off v (startCall s))

end Sys2Proof.Machine
end

