-- ==== Sys2Proof/Machine/Bank.lean ====
section
/-!
DEFINITION. The bank-switch unit (spec/40_bank_switch.md): PRG and CHR mapping and mode select, the reads and writes
through the windows, the nametable map.
-/
namespace Sys2Proof.Machine

/-! ### PRG helper functions -/

/-- `romPage(x)` (R143). -/
def romPage (p : Params) (x : Nat) : Nat := x % p.prgRomPages

/-- `ramPage(x)` (R143). -/
def ramPage (p : Params) (x : Nat) : Nat := x % p.prgRamPages

/-- The page number a bank byte selects, `(v & 0x7F & al) + k` (R143). -/
def bankPage (v al : Byte) (k : Nat) : Nat := (v &&& 0x7F#8 &&& al).toNat + k

/-- `romWin(v, al, k)` (R143). -/
def romWin (p : Params) (v al : Byte) (k : Nat) : PrgWindow := ⟨.rom, romPage p (bankPage v al k)⟩

/-- `selWin(v, al, k)`: bit 7 selects ROM or RAM (R143). -/
def selWin (p : Params) (v al : Byte) (k : Nat) : PrgWindow :=
  if topBit v then ⟨.rom, romPage p (bankPage v al k)⟩ else ⟨.ram, ramPage p (bankPage v al k)⟩

/-- The windows `DerivePRG` computes (R145) from prgMode and the raw bytes of `$5114-$5117`. -/
def derivePrg (p : Params) (mode : BitVec 2) (r4 r5 r6 r7 : Byte) : Vector PrgWindow 4 :=
  if mode = 0#2 then
    #v[romWin p r7 0x7C 0, romWin p r7 0x7C 1, romWin p r7 0x7C 2, romWin p r7 0x7C 3]
  else if mode = 1#2 then
    #v[selWin p r5 0x7E 0, selWin p r5 0x7E 1, romWin p r7 0x7E 0, romWin p r7 0x7E 1]
  else if mode = 2#2 then
    #v[selWin p r5 0x7E 0, selWin p r5 0x7E 1, selWin p r6 0x7F 0, romWin p r7 0x7F 0]
  else
    #v[selWin p r4 0x7F 0, selWin p r5 0x7F 0, selWin p r6 0x7F 0, romWin p r7 0x7F 0]

/-- The windows `DerivePRG` computes from the current registers. -/
def derivedPrg (p : Params) (s : State) : Vector PrgWindow 4 :=
  derivePrg p s.prgMode (getReg s rPrg8000) (getReg s rPrgA000) (getReg s rPrgC000) (getReg s rPrgE000)

/-- `DerivePRG()` (R145). -/
def rederivePrg (p : Params) (s : State) : State := { s with prgWin := derivedPrg p s }

/-! ### CHR helper functions -/

/-- CHR register r is addressable in mode m (R155). -/
def chrAddressable (m : BitVec 2) (r : Fin 12) : Bool :=
  if m = 0#2 then r = 7 || r = 11
  else if m = 1#2 then r = 3 || r = 7 || r = 11
  else if m = 2#2 then r.val % 2 = 1
  else true

/-- `ApplyCHR(m, r, B)` (R163), for r addressable in m. -/
def applyChr (m : BitVec 2) (r : Fin 12) (b : Nat) (c : Vector Nat 12) : Vector Nat 12 :=
  if m = 3#2 then c.set r.val b
  else if m = 2#2 then (c.set (r.val - 1) (b <<< 1)).set r.val ((b <<< 1) + 1)
  else if m = 1#2 then
    (((c.set (r.val - 3) (b <<< 2)).set (r.val - 3 + 1) ((b <<< 2) + 1)).set (r.val - 3 + 2) ((b <<< 2) + 2)).set
      (r.val - 3 + 3) ((b <<< 2) + 3)
  else if r = 7 then
    (((((((c.set 0 (b <<< 3)).set 1 ((b <<< 3) + 1)).set 2 ((b <<< 3) + 2)).set 3 ((b <<< 3) + 3)).set 4
      ((b <<< 3) + 4)).set 5 ((b <<< 3) + 5)).set 6 ((b <<< 3) + 6)).set 7 ((b <<< 3) + 7)
  else if r = 11 then
    (((c.set 8 (b <<< 3)).set 9 ((b <<< 3) + 1)).set 10 ((b <<< 3) + 2)).set 11 ((b <<< 3) + 3)
  else c

/-- The 10-bit bank value of CHR register r: its latched high bits over its raw byte (R164). -/
def chrBankValue (s : State) (r : Fin 12) : Nat := (s.chrHi[r.val]).toNat * 256 + (getReg s (rChrBank r)).toNat

/-- The CHR registers, ascending. -/
def chrRegisters : List (Fin 12) := [0, 1, 2, 3, 4, 5, 6, 7, 8, 9, 10, 11]

/-- The slots `DeriveCHR` computes (R164). -/
def derivedChr (s : State) : Vector Nat 12 :=
  chrRegisters.foldl
    (fun c r => if chrAddressable s.chrMode r then applyChr s.chrMode r (chrBankValue s r) c else c) s.chrSlot

/-- `DeriveCHR()` (R164). -/
def rederiveChr (s : State) : State := { s with chrSlot := derivedChr s }

/-- `SplitOrExtended()` (R158). -/
def splitOrExtended (s : State) : Bool :=
  topBit (getReg s rSplitMode) || lowField (getReg s rExramMode) = 1#2

/-- The raster column lies in the sprite-fetch window (R156). -/
def inSpriteColumns (p : Params) (s : State) : Bool :=
  decide (p.sprColLo ≤ (p.cycleToRasterColumn s.ppuCycle : Int) ∧ (p.cycleToRasterColumn s.ppuCycle : Int) ≤ p.sprColHi)

/-- The slot value that a pattern address selects (R156). -/
def chrSlotOf (p : Params) (s : State) (a : PatternAddr) : Nat :=
  if inSpriteColumns p s then s.chrSlot[(spriteSlot a).toNat]'(by have := (spriteSlot a).isLt; omega)
  else s.chrSlot[8 + (backgroundSlot a).toNat]'(by have := (backgroundSlot a).isLt; omega)

/-- The offset in CHR memory of a pattern address: the page wraps (R156, R157). -/
def chrOffset (p : Params) (s : State) (a : PatternAddr) : Nat :=
  (chrSlotOf p s a % p.chrPages) * 1024 + (patternOffset a).toNat

/-! ### PRG operations -/

/-- BW_PRG_MODE (R140). -/
def execBwPrgMode (v : Byte) (s : State) : Host.Outcome State Fault Refusal :=
  complete .nothing (rederivePrg Config.params { setReg rPrgMode v (startCall s) with prgMode := lowField v })

/-- BW_PRG_BANK (R141). -/
def execBwPrgBank (r : BitVec 2) (v : Byte) (s : State) : Host.Outcome State Fault Refusal :=
  complete .nothing (rederivePrg Config.params (setReg (rPrgBank r) v (startCall s)))

/-- BW_PRG_RAM_LO at `$5113` (R142). -/
def execBwPrgRamPage (v : Byte) (s : State) : Host.Outcome State Fault Refusal :=
  complete .nothing { setReg rPrg6000 v (startCall s) with lowRamPage := ramPage Config.params v.toNat }

/-- The window table entry of a high address (R150). -/
def prgWindowOf (s : State) (a : BitVec 15) : PrgWindow :=
  s.prgWin[(windowOf a).toNat]'(windowOf a).isLt

/-- The offset in its memory of a high address (R150). -/
def prgOffset (s : State) (a : BitVec 15) : Nat := (prgWindowOf s a).page * 8192 + (windowOffset a).toNat

/-- The byte a high address reads (R150). -/
def prgWindowRead (p : Params) (s : State) (a : BitVec 15) : Option Byte :=
  match (prgWindowOf s a).kind with
  | .rom => romRead p (prgOffset s a)
  | .ram => ramRead p s (prgOffset s a)

/-- BR_HIGH (R150). -/
def execBrHigh (a : BitVec 15) (s : State) : Host.Outcome State Fault Refusal :=
  completeRead (prgWindowRead Config.params s a) (startCall s)

/-- What a PRG-window write does (spec/41_write_protect.md R205): nothing in a ROM window or behind the latch. -/
def prgWindowWrite (p : Params) (a : BitVec 15) (v : Byte) (s : State) : Option State :=
  match (prgWindowOf s a).kind with
  | .rom => some s
  | .ram => if p.highRamProtected && !unlocked s then some s else ramWrite p (prgOffset s a) v s

/-- BW_HIGH (spec/41_write_protect.md R205). -/
def execBwHigh (a : BitVec 15) (v : Byte) (s : State) : Host.Outcome State Fault Refusal :=
  completeWrite (prgWindowWrite Config.params a v (startCall s))

/-! ### CHR operations -/

/-- PR (R156): a draw while split or ExRAM mode 1 is active (R158). -/
def execPr (a : PatternAddr) (s : State) : Host.Outcome State Fault Refusal :=
  if splitOrExtended s then completeDraw Config.params (startCall s)
  else complete (.byte (chrMemRead Config.params s (chrOffset Config.params s a))) (startCall s)

/-- What a CHR write does (R159): nothing to a CHR ROM or while split or ExRAM mode 1 is active (notes/assumptions/17.md). -/
def chrWindowWrite (p : Params) (a : PatternAddr) (v : Byte) (s : State) : State :=
  if !p.chrWritable then s
  else if splitOrExtended s then s
  else chrMemWrite p (chrOffset p s a) v s

/-- PW (R159). -/
def execPw (a : PatternAddr) (v : Byte) (s : State) : Host.Outcome State Fault Refusal :=
  complete .nothing (chrWindowWrite Config.params a v (startCall s))

/-- Re-derive the CHR slots at a mode write, where the parameter asks for it (R160). -/
def chrModeWritten (p : Params) (s : State) : State :=
  { s with chrSlot := if p.chrRederiveOnModeWrite then derivedChr s else s.chrSlot }

/-- BW_CHR_MODE (R160). -/
def execBwChrMode (v : Byte) (s : State) : Host.Outcome State Fault Refusal :=
  complete .nothing (chrModeWritten Config.params { setReg rChrMode v (startCall s) with chrMode := lowField v })

/-- A CHR bank select write of register r (R161). -/
def writeChrBank (r : Fin 12) (v : Byte) (s : State) : State :=
  let s' := { setReg (rChrBank r) v s with chrHi := s.chrHi.set r.val s.chrHigh }
  if chrAddressable s.chrMode r then
    { s' with chrSlot := applyChr s.chrMode r (s.chrHigh.toNat * 256 + v.toNat) s.chrSlot }
  else s'

/-- BW_CHR_BANK_SPR (R161). -/
def execBwChrBankSpr (r : BitVec 3) (v : Byte) (s : State) : Host.Outcome State Fault Refusal :=
  complete .nothing (writeChrBank ⟨r.toNat, by have := r.isLt; omega⟩ v (startCall s))

/-- BW_CHR_BANK_BG (R161). -/
def execBwChrBankBg (r : BitVec 2) (v : Byte) (s : State) : Host.Outcome State Fault Refusal :=
  complete .nothing (writeChrBank ⟨8 + r.toNat, by have := r.isLt; omega⟩ v (startCall s))

/-- BW_CHR_HIGH (R162). -/
def execBwChrHigh (v : Byte) (s : State) : Host.Outcome State Fault Refusal :=
  complete .nothing { setReg rChrHigh v (startCall s) with chrHigh := lowField v }

/-! ### The nametable map -/

/-- BW_NT_MAP (R170). -/
def execBwNtMap (v : Byte) (s : State) : Host.Outcome State Fault Refusal :=
  complete .nothing
    (callOut (.mirrorConfigure (quadrant v 0) (quadrant v 1) (quadrant v 2) (quadrant v 3))
      (setReg rNtMap v (startCall s)))

end Sys2Proof.Machine
end

