-- ==== Sys2Proof/Machine/Flags.lean ====
section
/-!
DEFINITION. The unit's only flags, the bits of the IRQ status byte (spec/10_state.md R32, R43): bit 7 pending, bit 6
not-in-frame.
-/
namespace Sys2Proof.Machine

/-- Pending, `irqStatus[7]`. -/
def isPending (s : State) : Bool := s.irqStatus.getLsbD 7

/-- Not-in-frame, `irqStatus[6]`. -/
def isNotInFrame (s : State) : Bool := s.irqStatus.getLsbD 6

/-- `irqStatus[7] <- 1`. -/
def setPending (s : State) : State := { s with irqStatus := s.irqStatus ||| 0x80#8 }

/-- `irqStatus[7] <- 0`. -/
def clearPending (s : State) : State := { s with irqStatus := s.irqStatus &&& 0x7F#8 }

/-- `irqStatus[6] <- 1`. -/
def setNotInFrame (s : State) : State := { s with irqStatus := s.irqStatus ||| 0x40#8 }

/-- `irqStatus[6] <- 0`. -/
def clearNotInFrame (s : State) : State := { s with irqStatus := s.irqStatus &&& 0xBF#8 }

end Sys2Proof.Machine
end

