-- ==== Sys2Proof/Machine/Irq.lean ====
section
/-!
DEFINITION. The IRQ/scanline unit (spec/42_irq_scanline.md).
-/
namespace Sys2Proof.Machine

/-- BW_IRQ_TARGET (R230). -/
def execBwIrqTarget (v : Byte) (s : State) : Host.Outcome State Fault Refusal :=
  complete .nothing { setReg rIrqTarget v (startCall s) with irqTarget := v }

/-- BW_IRQ_ENABLE (R231): neither asserts nor releases the line. -/
def execBwIrqEnable (v : Byte) (s : State) : Host.Outcome State Fault Refusal :=
  complete .nothing { setReg rIrqCtrl v (startCall s) with irqEnable := topBit v }

/-- BR_IRQ_STATUS (R232): returns the status, then clears pending and releases the line. -/
def execBrIrqStatus (s : State) : Host.Outcome State Fault Refusal :=
  complete (.byte s.irqStatus) (releaseLine (clearPending (startCall s)))

/-- The frame part of a PPU cycle on a raster line (R233): below `LINE_P` clear not-in-frame and release the line, at
`LINE_P` set not-in-frame, above it nothing. -/
def trackFrame (p : Params) (line : Int) (s : State) : State :=
  if line < p.lineP then releaseLine (clearNotInFrame s)
  else if line = p.lineP then setNotInFrame s
  else s

/-- The target-line match of a PPU cycle (R233): never for target 0, and at `IRQ_MATCH_COLUMN` only where that is set. -/
def targetMatches (p : Params) (cycle : Nat) (s : State) : Bool :=
  decide (p.cycleToRasterLine cycle = (s.irqTarget.toNat : Int)) && decide (0 < s.irqTarget.toNat) &&
    (match p.irqMatchColumn with
      | none => true
      | some c => decide ((p.cycleToRasterColumn cycle : Int) = c))

/-- `notifyIrqObserver()`, where the optional observer is there (R233; DESIGN CHOICE, notes/assumptions/8.md). -/
def notifyObserver (p : Params) (s : State) : State :=
  if p.notifiesObserver then callOut .notifyIrqObserver s else s

/-- Assert the line when enabled and pending (R233). -/
def driveLine (p : Params) (s : State) : State :=
  if s.irqEnable && isPending s then notifyObserver p (assertLine s) else s

/-- Set pending on a match (R233). -/
def latchMatch (p : Params) (cycle : Nat) (s : State) : State :=
  if targetMatches p cycle s then setPending s else s

/-- `syncPpuCycle(cycle, ppuAddr)` (R233): record the cycle, track the frame, latch a match, drive the line. -/
def syncPpu (p : Params) (cycle : Nat) (s : State) : State :=
  driveLine p (latchMatch p cycle (trackFrame p (p.cycleToRasterLine cycle) { s with ppuCycle := cycle }))

/-- SP (R233). `ppuAddr` is not read (notes/assumptions/18.md). -/
def execSp (cycle : Nat) (_ppuAddr : BitVec 14) (s : State) : Host.Outcome State Fault Refusal :=
  complete .nothing (syncPpu Config.params cycle (startCall s))

end Sys2Proof.Machine
end

