-- ==== Sys2Proof/Machine/Mixer.lean ====
section
/-!
DEFINITION. The mixer (spec/44_mixer.md): exact rational arithmetic with the truncations the rules name.
-/
namespace Sys2Proof.Machine

/-- `SqTerm(a, b)` (R331): 0 for a silent pair, else 95.88 / (8128 / (a + b) + 100). -/
def sqTerm (a b : Nat) : Rat :=
  if a + b = 0 then 0 else (9588 / 100 : Rat) / (8128 / ((a + b : Nat) : Rat) + 100)

/-- `DmcTerm(d)` (R332): 0 for a silent DMC, else 159.79 / (22638 / d + 100). -/
def dmcTerm (d : Nat) : Rat :=
  if d = 0 then 0 else (15979 / 100 : Rat) / (22638 / (d : Rat) + 100)

/-- `S(i)` (R333) of the three samples of index i. -/
def scaledSample (p : Params) (a b d : Nat) : Rat := (sqTerm a b + dmcTerm d) * p.mixScale

/-- The sum of `S(i)` over the buffers (R334; DEDUCED, notes/assumptions/16.md). -/
def scaledSum (p : Params) : List Nat → List Nat → List Nat → Rat
  | a :: as, b :: bs, d :: ds => scaledSample p a b d + scaledSum p as bs ds
  | _, _, _ => 0

/-- `trunc0(q)`: the integer part, truncated toward zero (spec/00_scope.md R10). -/
def trunc0 (q : Rat) : Int := q.num.tdiv (q.den : Int)

/-- `clamp(x, -32768, 32767)` (R334). -/
def clamp16 (x : Int) : Int := max (-32768) (min x 32767)

/-- `avg` (R334). -/
def frameAverage (p : Params) (s : State) : Int :=
  clamp16 (if s.sampleCount = 0 then 0
    else trunc0 (scaledSum p s.sq1Buf s.sq2Buf s.dmcBuf / (s.sampleCount : Rat)))

/-- The one-pole smoothing filter (R335). -/
def smooth (prev avg : Int) : Int := prev + ((avg - prev) * 65371).tdiv 65536

/-- `Drain()` (R336). -/
def drain (s : State) : State := { s with sq1Buf := [], sq2Buf := [], dmcBuf := [], sampleCount := 0 }

/-- The sample `computeAudioAmplitude` returns (R330). -/
def nextSample (p : Params) (s : State) : Int := smooth s.mixPrev (frameAverage p s)

/-- AM (R330). -/
def execAm (s : State) : Host.Outcome State Fault Refusal :=
  complete (.sample (nextSample Config.params s)) (drain { startCall s with mixPrev := nextSample Config.params s })

end Sys2Proof.Machine
end

