-- ==== Sys2Proof/Machine/Multiplier.lean ====
section
/-!
DEFINITION. The multiplier (spec/45_multiplier.md).
-/
namespace Sys2Proof.Machine

/-- The unsigned 16-bit product of two bytes (R364). -/
def product8 (a b : Byte) : BitVec 16 := a.setWidth 16 * b.setWidth 16

/-- BW_MUL_A (R360). -/
def execBwMulA (v : Byte) (s : State) : Host.Outcome State Fault Refusal :=
  complete .nothing { setReg rMulA v (startCall s) with mulA := v, product := product8 v s.mulB }

/-- BW_MUL_B (R361). -/
def execBwMulB (v : Byte) (s : State) : Host.Outcome State Fault Refusal :=
  complete .nothing { setReg rMulB v (startCall s) with mulB := v, product := product8 s.mulA v }

/-- BR_MUL_LO (R362). -/
def execBrMulLo (s : State) : Host.Outcome State Fault Refusal :=
  complete (.byte (s.product.extractLsb' 0 8)) (startCall s)

/-- BR_MUL_HI (R363). -/
def execBrMulHi (s : State) : Host.Outcome State Fault Refusal :=
  complete (.byte (s.product.extractLsb' 8 8)) (startCall s)

end Sys2Proof.Machine
end

