-- ==== Sys2Proof/Machine/RegBank.lean ====
section
/-!
DEFINITION. The register bank: stored-only registers, undriven reads, unmapped writes, debug reads
(spec/46_register_bank_misc.md).
-/
namespace Sys2Proof.Machine

/-- The address lies below the low entry points' range, `addr < $4020` (spec/20_memory.md R81; notes/assumptions/9.md). -/
def belowLowRange (addr : CpuAddr) : Bool := decide (addr.toNat < 0x4020)

/-- A stored-only register write (R382). -/
def storeOnly (i : Fin 44) (v : Byte) (s : State) : Host.Outcome State Fault Refusal :=
  complete .nothing (setReg i v (startCall s))

/-- BW_EXRAM_MODE (R382). -/
def execBwExramMode (v : Byte) (s : State) : Host.Outcome State Fault Refusal := storeOnly rExramMode v s

/-- BW_FILL (R382). -/
def execBwFill (r : FillReg) (v : Byte) (s : State) : Host.Outcome State Fault Refusal := storeOnly (rFill r) v s

/-- BW_SPLIT (R382). -/
def execBwSplit (r : SplitReg) (v : Byte) (s : State) : Host.Outcome State Fault Refusal := storeOnly (rSplit r) v s

/-- BW_SPLIT_BANK (R382). -/
def execBwSplitBank (v : Byte) (s : State) : Host.Outcome State Fault Refusal := storeOnly rSplitBank v s

/-- BR_UNDRIVEN (R383): `OPEN_BUS`, a draw; refused below `$4020` (spec/20_memory.md R81). -/
def execBrUndriven (addr : CpuAddr) (s : State) : Host.Outcome State Fault Refusal :=
  if belowLowRange addr then .refused .addressOutsideEntryPointRange else completeDraw Config.params (startCall s)

/-- BW_UNMAPPED (R385): ignored; refused below `$4020` (spec/20_memory.md R81). -/
def execBwUnmapped (addr : CpuAddr) (_v : Byte) (s : State) : Host.Outcome State Fault Refusal :=
  if belowLowRange addr then .refused .addressOutsideEntryPointRange else complete .nothing (startCall s)

/-- What `debugReadRegister` returns (R384). -/
def debugRead (s : State) (addr : CpuAddr) : Option Byte :=
  match regIdx addr with
  | some i => some (getReg s i)
  | none => none

/-- DR (R384). -/
def execDr (addr : CpuAddr) (s : State) : Host.Outcome State Fault Refusal :=
  complete (.register (debugRead s addr)) (startCall s)

end Sys2Proof.Machine
end

