-- ==== Sys2Proof/Machine/Reset.lean ====
section
/-!
DEFINITION. Reset (spec/70_reset_and_hazards.md R430, R431).
-/
namespace Sys2Proof.Machine

/-- The fields `reset` sets before it derives the bank tables (R430). -/
def resetRegisters (s : State) : State :=
  { s with reg := resetRaw, prgMode := 3, chrMode := 0, chrHigh := 0, chrHi := Vector.replicate 12 0
           protA := 0, protB := 0 }

/-- The IRQ part of reset (R430). -/
def resetIrq (s : State) : State := releaseLine { s with irqStatus := 0, irqEnable := false, irqTarget := 0 }

/-- The multiplier, channel and mixer part of reset (R430). -/
def resetAudio (s : State) : State :=
  { s with ppuCycle := 0, mulA := 0, mulB := 0, product := 0
           sq1 := SquareChan.zero, sq2 := SquareChan.zero
           dmcCtrl := 0, dmcDac := 0, dmcEnabled := true
           apuParity := false, frameCtr := 0, quarterCount := 0
           sq1Buf := [], sq2Buf := [], dmcBuf := [], sampleCount := 0, mixPrev := 0 }

/-- The bank tables' part of reset: `DerivePRG`, the low RAM page, `DeriveCHR` (R430). -/
def resetTables (p : Params) (s : State) : State :=
  let s' := rederivePrg p s
  rederiveChr { s' with lowRamPage := ramPage p (getReg s' rPrg6000).toNat }

/-- `reset(soft)` (R430): soft and hard reset are the same (R431, notes/assumptions/18.md); `chanMask` and the memories are unchanged. -/
def resetUnit (p : Params) (s : State) : State :=
  callOut (.mirrorConfigure 0 0 0 0) (resetAudio (resetIrq (resetTables p (resetRegisters s))))

/-- RS (R430). -/
def execRs (_soft : Bool) (s : State) : Host.Outcome State Fault Refusal :=
  complete .nothing (resetUnit Config.params (startCall s))

end Sys2Proof.Machine
end

