-- ==== Sys2Proof/Machine/Dispatch.lean ====
section
/-!
DEFINITION. What each operation does: one arm per constructor of Instr, each one call of that operation's meaning.
-/
namespace Sys2Proof.Machine

def exec (i : Instr) (s : State) : Host.Outcome State Fault Refusal :=
  match i with
  | .brSndStatus => Sys2Proof.Machine.execBrSndStatus s
  | .brIrqStatus => Sys2Proof.Machine.execBrIrqStatus s
  | .brMulLo => Sys2Proof.Machine.execBrMulLo s
  | .brMulHi => Sys2Proof.Machine.execBrMulHi s
  | .brPrgRamLo off => Sys2Proof.Machine.execBrPrgRamLo off s
  | .brHigh a => Sys2Proof.Machine.execBrHigh a s
  | .brUndriven addr => Sys2Proof.Machine.execBrUndriven addr s
  | .bwDmcCtrl v => Sys2Proof.Machine.execBwDmcCtrl v s
  | .bwDmcDac v => Sys2Proof.Machine.execBwDmcDac v s
  | .bwSndEn v => Sys2Proof.Machine.execBwSndEn v s
  | .bwPrgMode v => Sys2Proof.Machine.execBwPrgMode v s
  | .bwChrMode v => Sys2Proof.Machine.execBwChrMode v s
  | .bwProtA v => Sys2Proof.Machine.execBwProtA v s
  | .bwProtB v => Sys2Proof.Machine.execBwProtB v s
  | .bwExramMode v => Sys2Proof.Machine.execBwExramMode v s
  | .bwNtMap v => Sys2Proof.Machine.execBwNtMap v s
  | .bwPrgRamPage v => Sys2Proof.Machine.execBwPrgRamPage v s
  | .bwChrHigh v => Sys2Proof.Machine.execBwChrHigh v s
  | .bwSplitBank v => Sys2Proof.Machine.execBwSplitBank v s
  | .bwIrqTarget v => Sys2Proof.Machine.execBwIrqTarget v s
  | .bwIrqEnable v => Sys2Proof.Machine.execBwIrqEnable v s
  | .bwMulA v => Sys2Proof.Machine.execBwMulA v s
  | .bwMulB v => Sys2Proof.Machine.execBwMulB v s
  | .bwSqCtrl c v => Sys2Proof.Machine.execBwSqCtrl c v s
  | .bwSqSweep c v => Sys2Proof.Machine.execBwSqSweep c v s
  | .bwSqTlo c v => Sys2Proof.Machine.execBwSqTlo c v s
  | .bwSqLen c v => Sys2Proof.Machine.execBwSqLen c v s
  | .bwFill r v => Sys2Proof.Machine.execBwFill r v s
  | .bwSplit r v => Sys2Proof.Machine.execBwSplit r v s
  | .bwPrgBank r v => Sys2Proof.Machine.execBwPrgBank r v s
  | .bwChrBankBg r v => Sys2Proof.Machine.execBwChrBankBg r v s
  | .bwChrBankSpr r v => Sys2Proof.Machine.execBwChrBankSpr r v s
  | .bwPrgRamLo off v => Sys2Proof.Machine.execBwPrgRamLo off v s
  | .bwHigh a v => Sys2Proof.Machine.execBwHigh a v s
  | .bwUnmapped addr v => Sys2Proof.Machine.execBwUnmapped addr v s
  | .pr a => Sys2Proof.Machine.execPr a s
  | .pw a v => Sys2Proof.Machine.execPw a v s
  | .sc => Sys2Proof.Machine.execSc s
  | .sp cycle ppuAddr => Sys2Proof.Machine.execSp cycle ppuAddr s
  | .am => Sys2Proof.Machine.execAm s
  | .rs soft => Sys2Proof.Machine.execRs soft s
  | .mkMask mask => Sys2Proof.Machine.execMkMask mask s
  | .dr addr => Sys2Proof.Machine.execDr addr s

end Sys2Proof.Machine
end

