-- ==== Sys2Proof/Machine/Step.lean ====
section
/-!
DEFINITION. One step: the unit makes the next call (spec/20_memory.md R85, R90; notes/assumptions/1.md, 12.md).
-/
namespace Sys2Proof.Machine

/-- The refusal a word that does not decode meets (spec/30_encoding.md R117, spec/20_memory.md R81). -/
def refusalOf : DecodeError → Refusal
  | .illegalKind => .illegalOperationWord
  | .reservedBits => .illegalOperationWord
  | .mustBeZero => .illegalOperationWord
  | .addressOutsideRange => .addressOutsideEntryPointRange

/-- The next call is taken off `calls`, decoded and executed. With no call waiting nothing happens: the unit acts only
when called (spec/60_exceptions.md R414). -/
def step (s : State) : Host.Outcome State Fault Refusal :=
  match s.calls with
  | [] => .next s
  | c :: rest =>
    match decode c.word c.cycle with
    | .ok i => exec i { s with calls := rest }
    | .error e => .refused (refusalOf e)

/-- `s` with a word of the opcode table as its next call. The unit fetches nothing (spec/10_state.md R31): its caller
makes this call, with the side argument 0, which the table gives no bits. -/
def State.withFetchWord (s : State) (nbits w : Nat) : State :=
  { s with calls := ⟨tableWord nbits w, 0⟩ :: s.calls }

end Sys2Proof.Machine
end

