-- ==== Sys2Proof/Safety.lean ====
section
/-!
DEFINITION. What counts as a good state, in the terms the claims use: the invariants the spec states of the unit at every
step or its rules imply, and the memories' canonical form, which is the model's own (notes/assumptions/4.md), each under a
name of its own; and a safe step.
-/
namespace Sys2Proof.Machine

/-- The memories keep their canonical form: the model's own, no rule of the spec (DESIGN CHOICE, notes/assumptions/4.md). -/
def MemoryCanonical (s : State) : Prop :=
  Memory.wf Config.params.prgRamPowerOn s.prgRam = true ∧ Memory.wf Config.params.chrRamPowerOn s.chrMem = true

/-- Every listed offset lies in its memory (spec/60_exceptions.md R402; the list itself is notes/assumptions/4.md). -/
def MemoryBounded (s : State) : Prop :=
  (∀ c ∈ s.prgRam, c.1 < Config.params.prgRamPages * 8192) ∧ (∀ c ∈ s.chrMem, c.1 < Config.params.chrPages * 1024)

/-- The pages a window's kind has (spec/10_state.md R39). -/
def pagesOf (p : Params) : PrgKind → Nat
  | .rom => p.prgRomPages
  | .ram => p.prgRamPages

/-- A PRG window maps a page of its memory (spec/10_state.md R39). -/
def WindowInRange (w : PrgWindow) : Prop := w.page < pagesOf Config.params w.kind

/-- All PRG windows and the low RAM window map a page of their memory (spec/10_state.md R39, R40). -/
def WindowsInRange (s : State) : Prop :=
  (∀ w : Fin 4, WindowInRange s.prgWin[w]) ∧ s.lowRamPage < Config.params.prgRamPages

/-- Window 3 always maps ROM (spec/41_write_protect.md R205). -/
def TopWindowIsRom (s : State) : Prop := s.prgWin[3].kind = .rom

/-- The PRG window table is the one `DerivePRG` computes (spec/40_bank_switch.md R146). -/
def PrgTableDerived (s : State) : Prop := s.prgWin = derivedPrg Config.params s

/-- The low RAM page is the one `$5113` selects (spec/40_bank_switch.md R142). -/
def LowRamDerived (s : State) : Prop := s.lowRamPage = ramPage Config.params (getReg s rPrg6000).toNat

/-- Where the parameter asks for it, the CHR slot table is the one `DeriveCHR` computes (spec/40_bank_switch.md R165). -/
def ChrTableDerived (s : State) : Prop :=
  Config.params.chrRederiveOnModeWrite = true → s.chrSlot = derivedChr s

/-- Every CHR slot is a 13-bit page number (spec/10_state.md R41). -/
def ChrSlotsBounded (s : State) : Prop := ∀ i : Fin 12, s.chrSlot[i] ≤ 8191

/-- Each latch holds the field of its raw register (spec/10_state.md R34, spec/30_encoding.md R116). -/
def LatchesFollowRegisters (s : State) : Prop :=
  s.prgMode = lowField (getReg s rPrgMode) ∧ s.chrMode = lowField (getReg s rChrMode) ∧
  s.chrHigh = lowField (getReg s rChrHigh) ∧ s.protA = lowField (getReg s rProtA) ∧
  s.protB = lowField (getReg s rProtB) ∧ s.irqTarget = getReg s rIrqTarget ∧
  s.irqEnable = topBit (getReg s rIrqCtrl) ∧ s.mulA = getReg s rMulA ∧ s.mulB = getReg s rMulB ∧
  s.dmcCtrl = getReg s rDmcCtrl ∧ s.dmcDac = getReg s rDmcRaw &&& Config.params.dmcMask

/-- Bits 5:0 of the status byte are 0 (spec/10_state.md R43). -/
def StatusLowBitsClear (s : State) : Prop := s.irqStatus &&& 0x3F#8 = 0#8

/-- The line is asserted only while pending (spec/42_irq_scanline.md R234). -/
def LineImpliesPending (s : State) : Prop := s.irqLine = true → isPending s = true

/-- The product is that of the operands (spec/10_state.md R48). -/
def ProductHolds (s : State) : Prop := s.product.toNat = s.mulA.toNat * s.mulB.toNat

/-- A disabled Square channel has length 0 (spec/43_apu_channels.md R274). -/
def DisabledIsSilent (s : State) : Prop :=
  (s.sq1.enabled = false → s.sq1.length = 0) ∧ (s.sq2.enabled = false → s.sq2.length = 0)

/-- The DMC is enabled (spec/10_state.md R50). -/
def DmcAlwaysEnabled (s : State) : Prop := s.dmcEnabled = true

/-- The frame divider counters lie in their ranges (spec/10_state.md R51). -/
def FrameCountersInRange (s : State) : Prop :=
  s.frameCtr < Config.params.quarterPeriod ∧ s.quarterCount < Config.params.halfDiv

/-- The three buffers hold `sampleCount` samples each (spec/10_state.md R52). -/
def BuffersCounted (s : State) : Prop :=
  s.sq1Buf.length = s.sampleCount ∧ s.sq2Buf.length = s.sampleCount ∧ s.dmcBuf.length = s.sampleCount

/-- Every Square sample is at most 15 and every DMC sample at most `DMC_MASK` (spec/43_apu_channels.md R275, R280). -/
def SamplesInRange (s : State) : Prop :=
  (∀ x ∈ s.sq1Buf, x ≤ 15) ∧ (∀ x ∈ s.sq2Buf, x ≤ 15) ∧ (∀ x ∈ s.dmcBuf, x ≤ Config.params.dmcMask.toNat)

/-- The filter's state fits 16 bits (spec/10_state.md R53). -/
def MixInRange (s : State) : Prop := -32768 ≤ s.mixPrev ∧ s.mixPrev ≤ 32767

/-- Everything the spec says of the unit at every step or its rules imply, and the canonical form of the memories. -/
structure Good (s : State) : Prop where
  memoryCanonical : MemoryCanonical s
  memoryBounded : MemoryBounded s
  windowsInRange : WindowsInRange s
  topWindowIsRom : TopWindowIsRom s
  prgTableDerived : PrgTableDerived s
  lowRamDerived : LowRamDerived s
  chrTableDerived : ChrTableDerived s
  chrSlotsBounded : ChrSlotsBounded s
  latchesFollowRegisters : LatchesFollowRegisters s
  statusLowBitsClear : StatusLowBitsClear s
  lineImpliesPending : LineImpliesPending s
  productHolds : ProductHolds s
  disabledIsSilent : DisabledIsSilent s
  dmcAlwaysEnabled : DmcAlwaysEnabled s
  frameCountersInRange : FrameCountersInRange s
  buffersCounted : BuffersCounted s
  samplesInRange : SamplesInRange s
  mixInRange : MixInRange s

/-- A step that does not end in a fault (spec/60_exceptions.md R402). -/
def StepSafe (s : State) : Prop := ∀ f, step s ≠ .fault f

end Sys2Proof.Machine
end

