-- ==== Sys2Proof/Certificates/Slice0/Obligations.lean ====
section
/-!
DEFINITION. The statements for the provers, each a rule of spec/ said in arithmetic of its own wherever the model uses
bit operations. `Config.params` are the unit's parameters: any legal values, so every statement holds whatever they are.
-/
open Sys2Proof Sys2Proof.Machine

namespace Sys2Proof.Claims

/-! ### The vocabulary of the statements -/

/-- The state after a call that changes nothing, returns nothing and makes no external call. -/
def quiet (s : State) : State := { s with reply := .nothing, extCalls := [] }

/-- The state after a read that changes nothing and returns the byte `v`. -/
def answered (v : Byte) (s : State) : State := { s with reply := .byte v, extCalls := [] }

/-- The state after a read that changes nothing and returns a byte the unit does not determine. -/
def answeredDraw (s : State) : State :=
  { s with reply := .byte (Config.params.draw s.drawCtr), drawCtr := s.drawCtr + 1, extCalls := [] }

/-- The state after a register write that stores its raw byte and does nothing else (spec/30_encoding.md R114). -/
def stored (i : Fin 44) (v : Byte) (s : State) : State :=
  { s with reg := s.reg.set i.val v, reply := .nothing, extCalls := [] }

/-- `sq[c]` replaced by `q`. -/
def withSquare (c : Square) (q : SquareChan) (s : State) : State :=
  match c with
  | .sq1 => { s with sq1 := q }
  | .sq2 => { s with sq2 := q }

/-- The fields of an operation word, as numbers (spec/30_encoding.md R111). -/
def kindOf (w : OpWord) : Nat := w.toNat / 2 ^ 28
def zeroOf (w : OpWord) : Nat := w.toNat / 2 ^ 24 % 16
def dataOf (w : OpWord) : Nat := w.toNat / 2 ^ 16 % 256
def addrOf (w : OpWord) : Nat := w.toNat % 2 ^ 16

/-- The word has a known kind and every field its kind marks "must be 0" is 0 (spec/30_encoding.md R111 and the zero
fields of spec/opcode_table.json, SP's bits 27:14 among them); the range of a pattern address is said apart. -/
def fieldsLegal (w : OpWord) : Prop :=
  zeroOf w = 0 ∧
    match kindOf w with
    | 0 => dataOf w = 0
    | 1 => True
    | 2 => dataOf w = 0
    | 3 => True
    | 4 => dataOf w = 0 ∧ addrOf w = 0
    | 5 => dataOf w = 0 ∧ addrOf w < 2 ^ 14
    | 6 => dataOf w = 0 ∧ addrOf w = 0
    | 7 => dataOf w < 2 ∧ addrOf w = 0
    | 8 => dataOf w < 8 ∧ addrOf w = 0
    | 9 => dataOf w = 0
    | _ => False

/-- A pattern access whose address lies above `$1FFF` (spec/20_memory.md R81). -/
def patternOutOfRange (w : OpWord) : Prop := (kindOf w = 2 ∨ kindOf w = 3) ∧ 0x2000 ≤ addrOf w

/-- The 44 register addresses in index order (spec/10_state.md R33). -/
def registerAddresses : List CpuAddr :=
  [0x5000, 0x5001, 0x5002, 0x5003, 0x5004, 0x5005, 0x5006, 0x5007, 0x5010, 0x5011, 0x5015] ++
  [0x5100, 0x5101, 0x5102, 0x5103, 0x5104, 0x5105, 0x5106, 0x5107] ++
  [0x5113, 0x5114, 0x5115, 0x5116, 0x5117] ++
  [0x5120, 0x5121, 0x5122, 0x5123, 0x5124, 0x5125, 0x5126, 0x5127, 0x5128, 0x5129, 0x512A, 0x512B] ++
  [0x5130, 0x5200, 0x5201, 0x5202, 0x5203, 0x5204, 0x5205, 0x5206]

/-- The bus write an operation makes: its address and data byte. -/
def busWrite (i : Instr) : Option (CpuAddr × Byte) :=
  if (encodeFields i).kind = 1#4 then some ((encodeFields i).addr, (encodeFields i).data) else none

/-- What one operation leaves in the register bank (spec/10_state.md R34): a reset its reset values, a bus write to
the address of index k its byte at k, everything else what was there. -/
def rawAfter (r : Vector Byte 44) (i : Instr) : Vector Byte 44 :=
  match i with
  | .rs _ => resetRaw
  | j =>
    match busWrite j with
    | none => r
    | some (a, v) => if h : registerAddresses.idxOf a < 44 then r.set (registerAddresses.idxOf a) v else r

/-- An operation as a call: its word and its side argument. -/
def asCall (i : Instr) : Call := ⟨encode i, sideOf i⟩

/-- One operation after another, stopping where one does not answer a next state. -/
def runAll : List Instr → State → Host.Outcome State Fault Refusal
  | [], s => .next s
  | i :: rest, s =>
    match exec i s with
    | .next t => runAll rest t
    | o => o

/-- The byte of PRG-RAM at an offset. -/
def ramByte (s : State) (a : Nat) : Byte := Memory.read Config.params.prgRamPowerOn s.prgRam a

/-- The byte of CHR memory at an offset. -/
def chrByte (s : State) (a : Nat) : Byte :=
  if Config.params.chrWritable then Memory.read Config.params.chrRamPowerOn s.chrMem a else Config.params.chrRom a

/-- The two keys are set (spec/41_write_protect.md R202). -/
def keysSet (s : State) : Prop := s.protA.toNat = 2 ∧ s.protB.toNat = 1

/-- The page a bank byte selects for the k-th 8 KB of a window of `size` pages: its low seven bits, aligned down, plus k,
wrapped (spec/40_bank_switch.md R143). -/
def bankedPage (bank : Byte) (size k pages : Nat) : Nat := (bank.toNat % 128 / size * size + k) % pages

/-- A window that always maps ROM (spec/40_bank_switch.md R143). -/
def romWindow (bank : Byte) (size k : Nat) : PrgWindow := ⟨.rom, bankedPage bank size k Config.params.prgRomPages⟩

/-- A window that maps ROM where the bank byte is 128 or more, else RAM (spec/40_bank_switch.md R143). -/
def eitherWindow (bank : Byte) (size k : Nat) : PrgWindow :=
  if 128 ≤ bank.toNat then romWindow bank size k else ⟨.ram, bankedPage bank size k Config.params.prgRamPages⟩

/-- The four windows of a PRG scheme (spec/40_bank_switch.md R144, R145). -/
def schemeWindows (mode : Nat) (r4 r5 r6 r7 : Byte) : Vector PrgWindow 4 :=
  match mode with
  | 0 => #v[romWindow r7 4 0, romWindow r7 4 1, romWindow r7 4 2, romWindow r7 4 3]
  | 1 => #v[eitherWindow r5 2 0, eitherWindow r5 2 1, romWindow r7 2 0, romWindow r7 2 1]
  | 2 => #v[eitherWindow r5 2 0, eitherWindow r5 2 1, eitherWindow r6 1 0, romWindow r7 1 0]
  | _ => #v[eitherWindow r4 1 0, eitherWindow r5 1 0, eitherWindow r6 1 0, romWindow r7 1 0]

/-- `$5114 + r` drives window w in a PRG mode (spec/40_bank_switch.md R144). -/
def drivesWindow (mode r w : Nat) : Prop :=
  match mode with
  | 0 => r = 3
  | 1 => (r = 1 ∧ w < 2) ∨ (r = 3 ∧ 2 ≤ w)
  | 2 => (r = 1 ∧ w < 2) ∨ (r = 2 ∧ w = 2) ∨ (r = 3 ∧ w = 3)
  | _ => r = w

/-- The CHR register that drives a slot in a CHR mode (spec/40_bank_switch.md R155, R163). -/
def chrDriver (mode : Nat) (i : Fin 12) : Fin 12 :=
  match mode with
  | 0 => if i.val < 8 then 7 else 11
  | 1 => ⟨i.val / 4 * 4 + 3, by omega⟩
  | 2 => ⟨i.val / 2 * 2 + 1, by omega⟩
  | _ => i

/-- The place of a slot among those its register drives (spec/40_bank_switch.md R163). -/
def chrPlace (mode : Nat) (i : Fin 12) : Nat :=
  match mode with
  | 0 => if i.val < 8 then i.val else i.val - 8
  | 1 => i.val % 4
  | 2 => i.val % 2
  | _ => 0

/-- The slot value for a bank value: a page of `2^(3 - mode)` KB (spec/40_bank_switch.md R163). -/
def slotValue (mode bank : Nat) (i : Fin 12) : Nat := bank * 2 ^ (3 - mode) + chrPlace mode i

/-- The bank value stored for CHR register r (spec/40_bank_switch.md R164). -/
def storedBank (s : State) (r : Fin 12) : Nat :=
  (s.chrHi[r.val]).toNat * 256 + (s.reg[24 + r.val]'(by omega)).toNat

/-- The split is enabled or ExRAM mode 1 is set (spec/40_bank_switch.md R158). -/
def splitActive (s : State) : Prop := 128 ≤ (s.reg[37]).toNat ∨ (s.reg[15]).toNat % 4 = 1

/-- The raster column lies in the sprite-fetch interval (spec/40_bank_switch.md R156). -/
def spriteFetch (s : State) : Prop :=
  Config.params.sprColLo ≤ Config.params.cycleToRasterColumn s.ppuCycle ∧
    (Config.params.cycleToRasterColumn s.ppuCycle : Int) ≤ Config.params.sprColHi

/-- The CHR offset a pattern address `a` reads or writes, by its set's slot (spec/40_bank_switch.md R156, R157). -/
def patternByteOffset (s : State) (a : PatternAddr) (o : Nat) : Prop :=
  (spriteFetch s →
    o = (s.chrSlot[a.toNat / 1024]'(by omega)) % Config.params.chrPages * 1024 + a.toNat % 1024) ∧
  (¬ spriteFetch s →
    o = (s.chrSlot[8 + a.toNat / 1024 % 4]'(by omega)) % Config.params.chrPages * 1024 + a.toNat % 1024)

/-- The raster line of a PPU cycle matches the target (spec/42_irq_scanline.md R233). -/
def lineMatches (cycle : Nat) (s : State) : Prop :=
  Config.params.cycleToRasterLine cycle = s.irqTarget.toNat ∧ 0 < s.irqTarget.toNat ∧
    ∀ c, Config.params.irqMatchColumn = some c → (Config.params.cycleToRasterColumn cycle : Int) = c

/-- A Square channel with each field at the reset value of the table of spec/10_state.md R49. -/
def zeroChannel : SquareChan :=
  { duty := 0, halt := false, constVol := false, vol := 0
    sweepEn := false, sweepPeriod := 0, sweepNeg := false, sweepShift := 0, sweepReload := false, sweepDivider := 0
    timerPeriod := 0, timerCounter := 0, seqPos := 0, length := 0
    envStart := false, envDivider := 0, envDecay := 0, enabled := false }

/-- The length table (spec/43_apu_channels.md R278). -/
def lengths : List Nat :=
  [10, 254, 20, 2, 40, 4, 80, 6, 160, 8, 60, 10, 14, 12, 26, 14,
   12, 16, 24, 18, 48, 20, 96, 22, 192, 24, 72, 26, 16, 28, 32, 30]

/-- The duty positions at which each duty is 1 (spec/43_apu_channels.md R279). -/
def dutyOn (d p : Nat) : Prop :=
  match d with
  | 0 => p = 1
  | 1 => p = 1 ∨ p = 2
  | 2 => 1 ≤ p ∧ p ≤ 4
  | _ => p ≠ 1 ∧ p ≠ 2

/-- `target(c)` (spec/43_apu_channels.md R272). -/
def sweepGoal (c : Square) (q : SquareChan) : Int :=
  if q.sweepNeg then
    (q.timerPeriod.toNat : Int) - (q.timerPeriod.toNat / 2 ^ q.sweepShift.toNat : Nat) - (if c = .sq1 then 1 else 0)
  else (q.timerPeriod.toNat : Int) + (q.timerPeriod.toNat / 2 ^ q.sweepShift.toNat : Nat)

/-- `S` of one index (spec/44_mixer.md R331 to R333), by the rules' second, fraction-free form. -/
def mixedValue (p : Params) (x : (Nat × Nat) × Nat) : Rat :=
  ((9588 * ((x.1.1 + x.1.2 : Nat) : Rat)) / (100 * (8128 + 100 * ((x.1.1 + x.1.2 : Nat) : Rat))) +
    (15979 * ((x.2 : Nat) : Rat)) / (100 * (22638 + 100 * ((x.2 : Nat) : Rat)))) * p.mixScale

/-- The integer part of a rational, toward zero. -/
def integerPart (q : Rat) : Int := if 0 ≤ q then ⌊q⌋ else ⌈q⌉

/-- The frame average (spec/44_mixer.md R334). -/
def averageOf (p : Params) (s : State) : Int :=
  if s.sampleCount = 0 then 0
  else
    max (-32768) (min 32767
      (integerPart ((((s.sq1Buf.zip s.sq2Buf).zip s.dmcBuf).map (mixedValue p)).sum / (s.sampleCount : Rat))))

end Sys2Proof.Claims

open Sys2Proof.Claims

/-! ### Operation words -/

/-- Decoding the word and the side argument of any well-formed operation gives it back (30_encoding.md R111 to R115). -/
def Obligations.EncodedOperationDecodesBack : Prop :=
  ∀ i : Instr, i.wf = true → decode (encode i) (sideOf i) = .ok i

/-- A word that decodes is the word of the operation it decodes to, which is well-formed and carries the side argument
given: no two words mean the same (30_encoding.md R111, R112). -/
def Obligations.DecodedWordEncodesBack : Prop :=
  ∀ (w : OpWord) (cycle : Nat) (i : Instr), decode w cycle = .ok i →
    i.wf = true ∧ encode i = w ∧ ∀ c a, i = .sp c a → c = cycle

/-- Of all words the decoder refuses exactly those of 30_encoding.md R117 and the pattern addresses above `$1FFF` of
20_memory.md R81, each under the spec's reason; every other word decodes, and the step is what `exec` answers for its
operation. That is not always a next state: a BR or BW word below `$4020` decodes and `exec` refuses it
(CallsBelowTheLowRangeRefused); that the decoder takes such a word is the model's choice (notes/assumptions/9.md). -/
def Obligations.WordsRefusedExactly : Prop :=
  ∀ (w : OpWord) (cycle : Nat) (rest : List Call) (s : State), s.calls = ⟨w, cycle⟩ :: rest →
    (¬ fieldsLegal w → step s = .refused .illegalOperationWord) ∧
    (fieldsLegal w → patternOutOfRange w → step s = .refused .addressOutsideEntryPointRange) ∧
    (fieldsLegal w → ¬ patternOutOfRange w →
      ∃ i, decode w cycle = .ok i ∧ step s = exec i { s with calls := rest })

/-- The words that 95_test_vectors.md section 2.1 and its programs P1, P3 and P4 write out decode as it says
(30_encoding.md R119, the spec's own inference), the four readable registers of 30_encoding.md R115 among them. -/
def Obligations.SpecWordsDecode : Prop :=
  decode 0x10035100 0 = .ok (.bwPrgMode 0x03) ∧ decode 0x00005204 0 = .ok .brIrqStatus ∧
  decode 0x00005015 0 = .ok .brSndStatus ∧ decode 0x00005205 0 = .ok .brMulLo ∧ decode 0x00005206 0 = .ok .brMulHi ∧
  decode 0x00006000 0 = .ok (.brPrgRamLo 0) ∧
  decode 0x0000E000 0 = .ok (.brHigh 0x6000) ∧ decode 0x10778001 0 = .ok (.bwHigh 0x0001 0x77) ∧
  decode 0x20001400 0 = .ok (.pr 0x1400) ∧ decode 0x30AA0010 0 = .ok (.pw 0x0010 0xAA) ∧
  decode 0x40000000 0 = .ok .sc ∧ decode 0x50000000 5456 = .ok (.sp 5456 0) ∧ decode 0x60000000 0 = .ok .am ∧
  decode 0x70010000 0 = .ok (.rs true) ∧ decode 0x70000000 0 = .ok (.rs false) ∧
  decode 0x80030000 0 = .ok (.mkMask 0b011) ∧ decode 0x90005100 0 = .ok (.dr 0x5100) ∧
  decode 0x10105203 0 = .ok (.bwIrqTarget 0x10) ∧ decode 0x10FF5205 0 = .ok (.bwMulA 0xFF) ∧
  decode 0x105A6000 0 = .ok (.bwPrgRamLo 0 0x5A) ∧ decode 0x10FF5000 0 = .ok (.bwSqCtrl .sq1 0xFF)

/-- A step makes the next call: it decodes the call's word and runs the operation on the state without that call; a word
that does not decode is refused; with no call waiting nothing happens (20_memory.md R85, 60_exceptions.md R414; the list
of calls is the model's own, notes/assumptions/1.md and 12.md). -/
def Obligations.StepRunsTheDecodedCall : Prop :=
  ∀ s : State,
    (s.calls = [] → step s = .next s) ∧
    (∀ c rest i, s.calls = c :: rest → decode c.word c.cycle = .ok i → step s = exec i { s with calls := rest }) ∧
    (∀ c rest e, s.calls = c :: rest → decode c.word c.cycle = .error e → step s = .refused (refusalOf e))

/-- A low call below `$4020` is refused (20_memory.md R81). -/
def Obligations.CallsBelowTheLowRangeRefused : Prop :=
  ∀ (addr : CpuAddr) (v : Byte) (s : State), addr.toNat < 0x4020 →
    exec (.brUndriven addr) s = .refused .addressOutsideEntryPointRange ∧
    exec (.bwUnmapped addr v) s = .refused .addressOutsideEntryPointRange

/-! ### The register bank -/

/-- 10_state.md R34: after any sequence of calls each raw register holds the last byte written to its address since the
last reset, else its reset value (else what it held at the start); nothing else changes the register bank. -/
def Obligations.RawRegistersHoldTheLastWrite : Prop :=
  ∀ (is : List Instr) (s t : State), (∀ i ∈ is, i.wf = true) → s.calls = is.map asCall →
    Sys2Proof.core.run is.length s = .next t → t.reg = is.foldl rawAfter s.reg

/-- 46_register_bank_misc.md R384: a debug read returns the raw byte of the register at the address, `none` where there
is no register, and changes nothing. -/
def Obligations.DebugReadShowsTheRawRegister : Prop :=
  ∀ (addr : CpuAddr) (s : State),
    (∀ k : Fin 44, registerAddresses[k.val]? = some addr →
      exec (.dr addr) s = .next { s with reply := .register (some (s.reg[k.val])), extCalls := [] }) ∧
    (addr ∉ registerAddresses → exec (.dr addr) s = .next { s with reply := .register none, extCalls := [] })

/-- 46_register_bank_misc.md R382: the six stored-only registers keep their byte and do nothing else. -/
def Obligations.StoredOnlyWritesStore : Prop :=
  ∀ (v : Byte) (s : State),
    exec (.bwExramMode v) s = .next (stored 15 v s) ∧
    exec (.bwFill .tile v) s = .next (stored 17 v s) ∧ exec (.bwFill .attr v) s = .next (stored 18 v s) ∧
    exec (.bwSplit .mode v) s = .next (stored 37 v s) ∧ exec (.bwSplit .scroll v) s = .next (stored 38 v s) ∧
    exec (.bwSplitBank v) s = .next (stored 39 v s)

/-- 46_register_bank_misc.md R383: a low read of an address the unit does not drive returns a draw and changes nothing
else. The draw is a free value: the statement holds for every value of it. -/
def Obligations.UndrivenReadReturnsADraw : Prop :=
  ∀ (addr : CpuAddr) (cycle : Nat) (s : State), 0x4020 ≤ addr.toNat → addr.toNat ≤ 0x5FFF →
    addr ≠ 0x5015#16 → addr ≠ 0x5204#16 → addr ≠ 0x5205#16 → addr ≠ 0x5206#16 →
    decode (addr.setWidth 32) cycle = .ok (.brUndriven addr) ∧ exec (.brUndriven addr) s = .next (answeredDraw s)

/-- 46_register_bank_misc.md R385: a low write to an address no register decodes has no effect. -/
def Obligations.UnmappedWriteIsIgnored : Prop :=
  ∀ (addr : CpuAddr) (v : Byte) (cycle : Nat) (s : State), 0x4020 ≤ addr.toNat → addr.toNat ≤ 0x5FFF →
    addr ∉ registerAddresses →
    decode (BitVec.ofNat 32 (0x10000000 + v.toNat * 0x10000 + addr.toNat)) cycle = .ok (.bwUnmapped addr v) ∧
    exec (.bwUnmapped addr v) s = .next (quiet s)

/-! ### PRG mapping -/

/-- 40_bank_switch.md R140, R145: a PRG mode write stores its byte, sets prgMode and re-derives all four windows. -/
def Obligations.PrgModeWriteSelectsTheScheme : Prop :=
  ∀ (v : Byte) (s : State),
    exec (.bwPrgMode v) s = .next
      { stored 11 v s with
        prgMode := BitVec.ofNat 2 v.toNat
        prgWin := schemeWindows (v.toNat % 4) (s.reg[20]) (s.reg[21]) (s.reg[22]) (s.reg[23]) }

/-- 40_bank_switch.md R141: a PRG bank write stores its byte and re-derives the windows from the registers after it. -/
def Obligations.PrgBankWriteDerivesTheWindows : Prop :=
  ∀ (r : BitVec 2) (v : Byte) (s : State),
    exec (.bwPrgBank r v) s = .next
      { stored ⟨20 + r.toNat, by omega⟩ v s with
        prgWin := schemeWindows s.prgMode.toNat
          (if r = 0 then v else s.reg[20]) (if r = 1 then v else s.reg[21])
          (if r = 2 then v else s.reg[22]) (if r = 3 then v else s.reg[23]) }

/-- 40_bank_switch.md R147 (the spec's own inference): a PRG bank write stores its byte and leaves unchanged every window its register does not
drive in the current mode (all of them where it is not addressable), in a state whose windows are the derived ones. -/
def Obligations.InactivePrgWriteLeavesTheWindows : Prop :=
  ∀ (r : BitVec 2) (v : Byte) (s : State), PrgTableDerived s →
    ∃ t, exec (.bwPrgBank r v) s = .next t ∧ t.reg = s.reg.set (20 + r.toNat) v (by omega) ∧
      ∀ w : Fin 4, ¬ drivesWindow s.prgMode.toNat r.toNat w.val → t.prgWin[w.val] = s.prgWin[w.val]

/-- 40_bank_switch.md R146 (the spec's own inference): the PRG window table is the derived one at reset and every step keeps it so. -/
def Obligations.PrgTableStaysDerived : Prop :=
  PrgTableDerived State.reset ∧ ∀ s t, PrgTableDerived s → step s = .next t → PrgTableDerived t

/-- 40_bank_switch.md R142, R162: `$5113` selects the low RAM page, wrapped; `$5130` sets chrHigh and moves no slot. -/
def Obligations.LowRamPageAndChrHighWrites : Prop :=
  ∀ (v : Byte) (s : State),
    exec (.bwPrgRamPage v) s = .next { stored 19 v s with lowRamPage := v.toNat % Config.params.prgRamPages } ∧
    exec (.bwChrHigh v) s = .next { stored 36 v s with chrHigh := BitVec.ofNat 2 v.toNat }

/-- 40_bank_switch.md R143 (the spec's own inference): because PRG_RAM_PAGES is a power of two, wrapping a RAM page is masking it; pages wrapped
into ROM and RAM are pages those memories have (60_exceptions.md R402). For every legal choice of parameters. -/
def Obligations.RamPageWrapIsAMask : Prop :=
  ∀ (p : Params) (x : Nat),
    ramPage p x = x &&& (p.prgRamPages - 1) ∧ ramPage p x < p.prgRamPages ∧ romPage p x < p.prgRomPages

/-- 40_bank_switch.md R150 (and 60_exceptions.md R402 for a page its memory does not have): a high read returns the
byte its window maps and changes nothing. -/
def Obligations.HighReadDereferencesItsWindow : Prop :=
  ∀ (a : BitVec 15) (s : State) (w : PrgWindow), s.prgWin[a.toNat / 8192]'(by omega) = w →
    (w.kind = .rom → w.page < Config.params.prgRomPages →
      exec (.brHigh a) s = .next (answered (Config.params.prgRom (w.page * 8192 + a.toNat % 8192)) s)) ∧
    (w.kind = .ram → w.page < Config.params.prgRamPages →
      exec (.brHigh a) s = .next (answered (ramByte s (w.page * 8192 + a.toNat % 8192)) s)) ∧
    (pagesOf Config.params w.kind ≤ w.page → exec (.brHigh a) s = .fault .indexOutOfRange)

/-! ### Write protection and PRG-RAM -/

/-- 41_write_protect.md R200, R201: each latch write stores its byte and sets its own field. -/
def Obligations.ProtectWritesSetTheirField : Prop :=
  ∀ (v : Byte) (s : State),
    exec (.bwProtA v) s = .next { stored 13 v s with protA := BitVec.ofNat 2 v.toNat } ∧
    exec (.bwProtB v) s = .next { stored 14 v s with protB := BitVec.ofNat 2 v.toNat }

/-- 41_write_protect.md R203 (and 60_exceptions.md R402): a low RAM read returns the byte, whatever the latch holds. -/
def Obligations.LowRamReadIsUngated : Prop :=
  ∀ (off : BitVec 13) (s : State),
    (s.lowRamPage < Config.params.prgRamPages →
      exec (.brPrgRamLo off) s = .next (answered (ramByte s (s.lowRamPage * 8192 + off.toNat)) s)) ∧
    (Config.params.prgRamPages ≤ s.lowRamPage → exec (.brPrgRamLo off) s = .fault .indexOutOfRange)

/-- 41_write_protect.md R204 (and 60_exceptions.md R402 for a page the RAM does not have, notes/assumptions/13.md): a low
RAM write changes the one byte it addresses where both keys are set, else nothing. -/
def Obligations.LowRamWriteNeedsBothKeys : Prop :=
  ∀ (off : BitVec 13) (v : Byte) (s : State),
    (¬ keysSet s → exec (.bwPrgRamLo off v) s = .next (quiet s)) ∧
    (keysSet s → s.lowRamPage < Config.params.prgRamPages →
      ∃ t, exec (.bwPrgRamLo off v) s = .next t ∧ t = { quiet s with prgRam := t.prgRam } ∧
        ∀ a, ramByte t a = if a = s.lowRamPage * 8192 + off.toNat then v else ramByte s a) ∧
    (keysSet s → Config.params.prgRamPages ≤ s.lowRamPage → exec (.bwPrgRamLo off v) s = .fault .indexOutOfRange)

/-- 41_write_protect.md R202, through the three calls that use it: whatever the latch held, a RAM write after the two
latch writes lands for exactly one of the 16 pairs of fields, (2, 1). -/
def Obligations.OnlyTheTwoKeyPairUnlocks : Prop :=
  ∀ (a b v : Byte) (off : BitVec 13) (s : State), s.lowRamPage < Config.params.prgRamPages →
    ∃ t, runAll [.bwProtA a, .bwProtB b, .bwPrgRamLo off v] s = .next t ∧
      ∀ x, ramByte t x =
        if a.toNat % 4 = 2 ∧ b.toNat % 4 = 1 ∧ x = s.lowRamPage * 8192 + off.toNat then v else ramByte s x

/-- 41_write_protect.md R205: a write through a ROM window has no effect; through a RAM window it changes the one byte it
addresses unless HIGH_RAM_PROTECTED gates it; through window 3, which always maps ROM, it never has one. An ungated
write through a page the RAM does not have faults (60_exceptions.md R402, notes/assumptions/13.md). -/
def Obligations.HighWriteReachesRamOnly : Prop :=
  ∀ (a : BitVec 15) (v : Byte) (s : State) (w : PrgWindow), s.prgWin[a.toNat / 8192]'(by omega) = w →
    (w.kind = .rom → exec (.bwHigh a v) s = .next (quiet s)) ∧
    (w.kind = .ram → w.page < Config.params.prgRamPages →
      ∃ t, exec (.bwHigh a v) s = .next t ∧ t = { quiet s with prgRam := t.prgRam } ∧
        ∀ x, (x = w.page * 8192 + a.toNat % 8192 ∧ (Config.params.highRamProtected = true → keysSet s) →
            ramByte t x = v) ∧
          (¬ (x = w.page * 8192 + a.toNat % 8192 ∧ (Config.params.highRamProtected = true → keysSet s)) →
            ramByte t x = ramByte s x)) ∧
    (w.kind = .ram → Config.params.highRamProtected = true → ¬ keysSet s → exec (.bwHigh a v) s = .next (quiet s)) ∧
    (w.kind = .ram → (Config.params.highRamProtected = true → keysSet s) → Config.params.prgRamPages ≤ w.page →
      exec (.bwHigh a v) s = .fault .indexOutOfRange) ∧
    (TopWindowIsRom s → 3 * 8192 ≤ a.toNat → exec (.bwHigh a v) s = .next (quiet s))

/-- 41_write_protect.md R206 (the spec's own inference): the low window and a RAM-mapped PRG window that hold one page are two views of the same
bytes: a write through either, with both keys set, is read through the other. -/
def Obligations.OneRamHasTwoViews : Prop :=
  ∀ (a : BitVec 15) (off : BitVec 13) (v : Byte) (s : State), keysSet s →
    s.prgWin[a.toNat / 8192]'(by omega) = ⟨.ram, s.lowRamPage⟩ → s.lowRamPage < Config.params.prgRamPages →
    a.toNat % 8192 = off.toNat →
    (∃ t, runAll [.bwPrgRamLo off v, .brHigh a] s = .next t ∧ t.reply = .byte v) ∧
    (∃ t, runAll [.bwHigh a v, .brPrgRamLo off] s = .next t ∧ t.reply = .byte v)

/-! ### CHR mapping -/

/-- 40_bank_switch.md R160, R164: a CHR mode write stores its byte, sets chrMode and, where the parameter asks for it,
re-derives every slot from the stored bank values. -/
def Obligations.ChrModeWriteRederivesTheSlots : Prop :=
  ∀ (v : Byte) (s : State), ∃ t, exec (.bwChrMode v) s = .next t ∧
    t = { stored 12 v s with chrMode := BitVec.ofNat 2 v.toNat, chrSlot := t.chrSlot } ∧
    ∀ i : Fin 12, t.chrSlot[i.val] =
      if Config.params.chrRederiveOnModeWrite then
        slotValue (v.toNat % 4) (storedBank s (chrDriver (v.toNat % 4) i)) i
      else s.chrSlot[i.val]

/-- 40_bank_switch.md R161, R163: a CHR bank write stores its byte and latches the high bits, and changes exactly the
slots its register drives in the current mode (none where it is not addressable). For all twelve registers. -/
def Obligations.ChrBankWriteSetsItsSlots : Prop :=
  ∀ (v : Byte) (s : State) (r : Fin 12) (i : Instr),
    ((∃ k : BitVec 3, i = .bwChrBankSpr k v ∧ r.val = k.toNat) ∨
      (∃ k : BitVec 2, i = .bwChrBankBg k v ∧ r.val = 8 + k.toNat)) →
    ∃ t, exec i s = .next t ∧
      t = { stored ⟨24 + r.val, by omega⟩ v s with
            chrHi := s.chrHi.set r.val s.chrHigh
            chrSlot := t.chrSlot } ∧
      ∀ j : Fin 12, t.chrSlot[j.val] =
        if chrDriver s.chrMode.toNat j = r then slotValue s.chrMode.toNat (s.chrHigh.toNat * 256 + v.toNat) j
        else s.chrSlot[j.val]

/-- 40_bank_switch.md R165, first sentence (the spec's own inference): where CHR_REDERIVE_ON_MODE_WRITE is true, the CHR slot table is the derived
one at reset and every step keeps it so. -/
def Obligations.ChrTableStaysDerived : Prop :=
  ChrTableDerived State.reset ∧ ∀ s t, ChrTableDerived s → step s = .next t → ChrTableDerived t

/-- 40_bank_switch.md R166 (the spec's own inference): with chrHigh 0, two writes of V in mode 0 and three quad writes of the same pages in mode 1
leave the same twelve slots. -/
def Obligations.ChrModesAgreeOnTheSamePages : Prop :=
  ∀ (n : Nat) (s : State), n ≤ 127 → s.chrHigh = 0 →
    ∃ t u,
      runAll [.bwChrMode 0, .bwChrBankSpr 7 (BitVec.ofNat 8 n), .bwChrBankBg 3 (BitVec.ofNat 8 n)] s = .next t ∧
      runAll [.bwChrMode 1, .bwChrBankSpr 3 (BitVec.ofNat 8 (2 * n)), .bwChrBankSpr 7 (BitVec.ofNat 8 (2 * n + 1)),
        .bwChrBankBg 3 (BitVec.ofNat 8 (2 * n))] s = .next u ∧
      t.chrSlot = u.chrSlot ∧ ∀ i : Fin 12, t.chrSlot[i.val] = 8 * n + i.val % 8

/-- 40_bank_switch.md R156 to R158: a pattern read returns the byte of the page its set's slot names, wrapped into the CHR
memory, or a draw (a free value) while the split or ExRAM mode 1 is active; it changes nothing else. -/
def Obligations.PatternReadFollowsItsSlot : Prop :=
  ∀ (a : PatternAddr) (s : State) (o : Nat), patternByteOffset s a o →
    o < Config.params.chrPages * 1024 ∧
    (splitActive s → exec (.pr a) s = .next (answeredDraw s)) ∧
    (¬ splitActive s → exec (.pr a) s = .next (answered (chrByte s o) s))

/-- 40_bank_switch.md R159: where the CHR memory is ROM, or the split or ExRAM mode 1 is active, a pattern write changes
nothing; otherwise it changes the one byte at `chrOffset`, which is the offset of the page its set's slot names. -/
def Obligations.PatternWriteReachesChrRamOnly : Prop :=
  ∀ (a : PatternAddr) (v : Byte) (s : State),
    patternByteOffset s a (chrOffset Config.params s a) ∧
    (¬ (Config.params.chrWritable = true ∧ ¬ splitActive s) → exec (.pw a v) s = .next (quiet s)) ∧
    (Config.params.chrWritable = true → ¬ splitActive s →
      ∃ t, exec (.pw a v) s = .next t ∧ t = { quiet s with chrMem := t.chrMem } ∧
        ∀ x, chrByte t x = if x = chrOffset Config.params s a then v else chrByte s x)

/-- 40_bank_switch.md R170: `$5105` stores its byte and passes its four fields to the PPU core. -/
def Obligations.NametableWriteConfiguresTheMirrors : Prop :=
  ∀ (v : Byte) (s : State),
    exec (.bwNtMap v) s = .next
      { stored 16 v s with
        extCalls := [.mirrorConfigure (BitVec.ofNat 2 v.toNat) (BitVec.ofNat 2 (v.toNat / 4))
          (BitVec.ofNat 2 (v.toNat / 16)) (BitVec.ofNat 2 (v.toNat / 64))] }

/-! ### The IRQ unit -/

/-- 42_irq_scanline.md R230 to R232: the target and the enable are set, and pending, not-in-frame and the line are not
touched; the status read returns the status, then clears pending and releases the line. -/
def Obligations.IrqRegisterAccesses : Prop :=
  ∀ (v : Byte) (s : State),
    exec (.bwIrqTarget v) s = .next { stored 40 v s with irqTarget := v } ∧
    exec (.bwIrqEnable v) s = .next { stored 41 v s with irqEnable := decide (128 ≤ v.toNat) } ∧
    exec .brIrqStatus s = .next
      { answered s.irqStatus s with
        irqStatus := BitVec.ofNat 8 (s.irqStatus.toNat % 128)
        irqLine := false
        extCalls := [.releaseInterrupt] }

/-- 42_irq_scanline.md R233: everything a PPU cycle does. The observer's call, which the rule makes optional, is made or
not as the parameter of notes/assumptions/8.md says. -/
def Obligations.PpuCycleTracksTheRaster : Prop :=
  ∀ (cycle : Nat) (ppuAddr : BitVec 14) (s : State) (line : Int), Config.params.cycleToRasterLine cycle = line →
    ∃ t, exec (.sp cycle ppuAddr) s = .next t ∧
      t = { quiet s with
            ppuCycle := cycle, irqStatus := t.irqStatus, irqLine := t.irqLine, extCalls := t.extCalls } ∧
      (∀ b < 6, t.irqStatus.getLsbD b = s.irqStatus.getLsbD b) ∧
      (t.irqStatus.getLsbD 6 =
        if line < Config.params.lineP then false
        else if line = Config.params.lineP then true else s.irqStatus.getLsbD 6) ∧
      (t.irqStatus.getLsbD 7 = true ↔ s.irqStatus.getLsbD 7 = true ∨ lineMatches cycle s) ∧
      (t.irqLine =
        if s.irqEnable = true ∧ t.irqStatus.getLsbD 7 = true then true
        else if line < Config.params.lineP then false else s.irqLine) ∧
      (t.extCalls =
        (if line < Config.params.lineP then [.releaseInterrupt] else []) ++
        (if s.irqEnable = true ∧ t.irqStatus.getLsbD 7 = true then
          .assertInterrupt :: (if Config.params.notifiesObserver then [.notifyIrqObserver] else [])
        else []))

/-- 42_irq_scanline.md R234 (the spec's own inference): the line is asserted only while pending: so at reset, and every step keeps it so. -/
def Obligations.AssertedLineStaysPending : Prop :=
  LineImpliesPending State.reset ∧ ∀ s t, LineImpliesPending s → step s = .next t → LineImpliesPending t

/-- 42_irq_scanline.md R237 (70_reset_and_hazards.md R442; the spec's own inference), for every choice of parameters with IRQ_MATCH_COLUMN = none:
an acknowledge made while the raster stays on the target line is undone by the next PPU cycle on it. -/
def Obligations.AcknowledgeOnTheTargetLineIsUndone : Prop :=
  ∀ (p : Params) (c d : Nat) (s : State), p.irqMatchColumn = none → 0 < s.irqTarget.toNat →
    p.cycleToRasterLine c = s.irqTarget.toNat → p.cycleToRasterLine d = s.irqTarget.toNat →
    ∃ u, exec .brIrqStatus (syncPpu p c s) = .next u ∧ isPending u = false ∧ u.irqLine = false ∧
      isPending (syncPpu p d u) = true ∧ (s.irqEnable = true → (syncPpu p d u).irqLine = true)

/-- 60_exceptions.md R404 and 42_irq_scanline.md R234 (in part its inference): only a PPU cycle asserts the interrupt line; only a PPU cycle, a status read and a reset
release it. -/
def Obligations.OnlyPpuCyclesAssertTheLine : Prop :=
  ∀ (i : Instr) (s t : State), exec i s = .next t →
    ((t.irqLine = true ∧ s.irqLine = false ∨ .assertInterrupt ∈ t.extCalls) → ∃ c a, i = .sp c a) ∧
    ((t.irqLine = false ∧ s.irqLine = true ∨ .releaseInterrupt ∈ t.extCalls) →
      (∃ c a, i = .sp c a) ∨ i = .brIrqStatus ∨ ∃ b, i = .rs b)

/-! ### The channels -/

/-- 43_apu_channels.md R260, R261: the control and sweep writes decode their byte into the channel's fields. -/
def Obligations.SquareControlAndSweepWrites : Prop :=
  ∀ (c : Square) (v : Byte) (s : State),
    exec (.bwSqCtrl c v) s = .next
      (withSquare c
        { getSquare s c with
          duty := BitVec.ofNat 2 (v.toNat / 64), halt := decide (v.toNat / 32 % 2 = 1)
          constVol := decide (v.toNat / 16 % 2 = 1), vol := BitVec.ofNat 4 v.toNat }
        (stored (if c = .sq1 then 0 else 4) v s)) ∧
    exec (.bwSqSweep c v) s = .next
      (withSquare c
        { getSquare s c with
          sweepEn := decide (v.toNat / 128 = 1), sweepPeriod := BitVec.ofNat 3 (v.toNat / 16)
          sweepNeg := decide (v.toNat / 8 % 2 = 1), sweepShift := BitVec.ofNat 3 v.toNat, sweepReload := true }
        (stored (if c = .sq1 then 1 else 5) v s))

/-- 43_apu_channels.md R262, R263, R278: the timer period's two halves; the length is loaded from the table only while
the channel is enabled. -/
def Obligations.SquareTimerAndLengthWrites : Prop :=
  ∀ (c : Square) (v : Byte) (s : State),
    exec (.bwSqTlo c v) s = .next
      (withSquare c
        { getSquare s c with
          timerPeriod := BitVec.ofNat 11 ((getSquare s c).timerPeriod.toNat / 256 * 256 + v.toNat) }
        (stored (if c = .sq1 then 2 else 6) v s)) ∧
    exec (.bwSqLen c v) s = .next
      (withSquare c
        { getSquare s c with
          timerPeriod := BitVec.ofNat 11 (v.toNat % 8 * 256 + (getSquare s c).timerPeriod.toNat % 256)
          length := if (getSquare s c).enabled then BitVec.ofNat 8 (lengths.getD (v.toNat / 8) 0)
            else (getSquare s c).length
          seqPos := 0
          envStart := true }
        (stored (if c = .sq1 then 3 else 7) v s))

/-- 43_apu_channels.md R264, R265, R277: `$5010` is stored; `$5011` loads the DAC through DMC_MASK; the host's mask write
changes the mask alone. -/
def Obligations.DmcAndMaskWrites : Prop :=
  ∀ (v : Byte) (mask : BitVec 3) (s : State),
    exec (.bwDmcCtrl v) s = .next { stored 8 v s with dmcCtrl := v } ∧
    exec (.bwDmcDac v) s = .next { stored 9 v s with dmcDac := v &&& Config.params.dmcMask } ∧
    exec (.mkMask mask) s = .next { quiet s with chanMask := mask }

/-- 43_apu_channels.md R266, R267: `$5015` enables each Square by its bit, disabling zeroes the length and enabling loads
none; its read shows which Squares' lengths are above 0, and nothing else. -/
def Obligations.ChannelEnableAndStatus : Prop :=
  ∀ (v : Byte) (s : State),
    exec (.bwSndEn v) s = .next
      { stored 10 v s with
        sq1 := if v.toNat % 2 = 1 then { s.sq1 with enabled := true } else { s.sq1 with enabled := false, length := 0 }
        sq2 := if v.toNat / 2 % 2 = 1 then { s.sq2 with enabled := true }
          else { s.sq2 with enabled := false, length := 0 } } ∧
    exec .brSndStatus s = .next
      (answered (BitVec.ofNat 8 ((if s.sq2.length = 0 then 0 else 2) + (if s.sq1.length = 0 then 0 else 1))) s)

/-- 43_apu_channels.md R268, R270: everything a CPU cycle does: the frame divider, the quarter and half frames, the timers
every second cycle, one sample appended to each buffer. -/
def Obligations.CpuCycleClocksTheChannels : Prop :=
  ∀ s : State, ∃ t, exec .sc s = .next t ∧
    t = { quiet s with
          sq1 := t.sq1, sq2 := t.sq2, apuParity := !s.apuParity, frameCtr := t.frameCtr, quarterCount := t.quarterCount
          sq1Buf := s.sq1Buf ++ [squareSample Config.params t .sq1]
          sq2Buf := s.sq2Buf ++ [squareSample Config.params t .sq2]
          dmcBuf := s.dmcBuf ++ [if s.chanMask.getLsbD 2 then s.dmcDac.toNat else 0]
          sampleCount := s.sampleCount + 1 } ∧
    (s.frameCtr + 1 ≠ Config.params.quarterPeriod →
      t.frameCtr = s.frameCtr + 1 ∧ t.quarterCount = s.quarterCount ∧
      t.sq1 = (if s.apuParity then timerClock s.sq1 else s.sq1) ∧
      t.sq2 = (if s.apuParity then timerClock s.sq2 else s.sq2)) ∧
    (s.frameCtr + 1 = Config.params.quarterPeriod → s.quarterCount + 1 ≠ Config.params.halfDiv →
      t.frameCtr = 0 ∧ t.quarterCount = s.quarterCount + 1 ∧
      t.sq1 = (if s.apuParity then timerClock (envelopeClock s.sq1) else envelopeClock s.sq1) ∧
      t.sq2 = (if s.apuParity then timerClock (envelopeClock s.sq2) else envelopeClock s.sq2)) ∧
    (s.frameCtr + 1 = Config.params.quarterPeriod → s.quarterCount + 1 = Config.params.halfDiv →
      t.frameCtr = 0 ∧ t.quarterCount = 0 ∧
      t.sq1 = (if s.apuParity then timerClock (sweepClock Config.params .sq1 (lengthClock (envelopeClock s.sq1)))
        else sweepClock Config.params .sq1 (lengthClock (envelopeClock s.sq1))) ∧
      t.sq2 = (if s.apuParity then timerClock (sweepClock Config.params .sq2 (lengthClock (envelopeClock s.sq2)))
        else sweepClock Config.params .sq2 (lengthClock (envelopeClock s.sq2))))

/-- 43_apu_channels.md R269: what one timer clock does, and its own inference that with the timer period held at t the
sequencer steps down once every t + 1 timer clocks. -/
def Obligations.SequencerStepsOncePerPeriod : Prop :=
  (∀ q : SquareChan,
    (q.timerCounter.toNat = 0 →
      timerClock q =
        { q with timerCounter := q.timerPeriod, seqPos := BitVec.ofNat 3 ((q.seqPos.toNat + 7) % 8) }) ∧
    (0 < q.timerCounter.toNat →
      timerClock q = { q with timerCounter := BitVec.ofNat 11 (q.timerCounter.toNat - 1) })) ∧
  ∀ (q : SquareChan) (n : Nat), n ≤ q.timerPeriod.toNat → q.timerCounter = 0 →
    (timerClock^[n + 1] q).seqPos = BitVec.ofNat 3 (q.seqPos.toNat + 7) ∧
    (timerClock^[n + 1] q).timerCounter = BitVec.ofNat 11 (q.timerPeriod.toNat - n) ∧
    timerClock^[q.timerPeriod.toNat + 1] q = { q with seqPos := BitVec.ofNat 3 (q.seqPos.toNat + 7) }

/-- 43_apu_channels.md R271: the envelope. -/
def Obligations.EnvelopeClockCountsDown : Prop :=
  ∀ q : SquareChan,
    (q.envStart = true → envelopeClock q = { q with envStart := false, envDecay := 15, envDivider := q.vol }) ∧
    (q.envStart = false → 0 < q.envDivider.toNat →
      envelopeClock q = { q with envDivider := BitVec.ofNat 4 (q.envDivider.toNat - 1) }) ∧
    (q.envStart = false → q.envDivider.toNat = 0 →
      envelopeClock q =
        { q with
          envDivider := q.vol
          envDecay := BitVec.ofNat 4
            (if 0 < q.envDecay.toNat then q.envDecay.toNat - 1 else if q.halt then 15 else 0) })

/-- 43_apu_channels.md R272, R273: what a sweep clock does, for every legal choice of parameters. Its own inference that a
written target is at least 8 is not stated: from period 8, shift 1 and negate, Square 1 gets 3 (notes/assumptions/15.md);
the bound here is the one the pseudocode gives. -/
def Obligations.SweepClockWritesTheTarget : Prop :=
  ∀ (p : Params) (c : Square) (q : SquareChan),
    (p.squareSweep = false → sweepMute p c q = false ∧ sweepClock p c q = q) ∧
    (p.squareSweep = true →
      (sweepMute p c q = true ↔ q.timerPeriod.toNat < 8 ∨ 0x7FF < sweepGoal c q) ∧
      ∃ q', sweepClock p c q = q' ∧
        q' = { q with timerPeriod := q'.timerPeriod, sweepDivider := q'.sweepDivider, sweepReload := false } ∧
        (q.sweepDivider = 0 ∧ q.sweepEn = true ∧ q.sweepShift ≠ 0 ∧ sweepMute p c q = false →
          (q'.timerPeriod.toNat : Int) = sweepGoal c q ∧ 3 ≤ q'.timerPeriod.toNat) ∧
        (¬ (q.sweepDivider = 0 ∧ q.sweepEn = true ∧ q.sweepShift ≠ 0 ∧ sweepMute p c q = false) →
          q'.timerPeriod = q.timerPeriod) ∧
        q'.sweepDivider.toNat =
          if q.sweepDivider = 0 ∨ q.sweepReload = true then q.sweepPeriod.toNat else q.sweepDivider.toNat - 1)

/-- 43_apu_channels.md R274: the length clock, and (the spec's own inference) that a disabled channel's length is 0 at reset and stays 0 at every
step. -/
def Obligations.DisabledChannelStaysSilent : Prop :=
  (∀ q : SquareChan,
    lengthClock q = { q with length := BitVec.ofNat 8 (if q.halt then q.length.toNat else q.length.toNat - 1) }) ∧
  DisabledIsSilent State.reset ∧ ∀ s t, DisabledIsSilent s → step s = .next t → DisabledIsSilent t

/-- 43_apu_channels.md R275, R279: a Square's sample, and (the spec's own inference) that it is at most 15, so two sum to at most 30; for every legal
choice of parameters. -/
def Obligations.SquareSampleIsFourBits : Prop :=
  ∀ (p : Params) (s : State) (c : Square),
    squareSample p s c ≤ 15 ∧ squareSample p s .sq1 + squareSample p s .sq2 ≤ 30 ∧
    (s.chanMask.getLsbD (if c = .sq1 then 0 else 1) = true ∧ (getSquare s c).length ≠ 0 ∧
        sweepMute p c (getSquare s c) = false ∧
        dutyOn (getSquare s c).duty.toNat (getSquare s c).seqPos.toNat →
      squareSample p s c =
        if (getSquare s c).constVol then (getSquare s c).vol.toNat else (getSquare s c).envDecay.toNat) ∧
    (¬ (s.chanMask.getLsbD (if c = .sq1 then 0 else 1) = true ∧ (getSquare s c).length ≠ 0 ∧
        sweepMute p c (getSquare s c) = false ∧
        dutyOn (getSquare s c).duty.toNat (getSquare s c).seqPos.toNat) →
      squareSample p s c = 0)

/-- 43_apu_channels.md R281 (the spec's own inference): no operation lets one Square read the other: what it leaves in a channel depends on that
channel and the shared clock alone. -/
def Obligations.SquaresAreIndependent : Prop :=
  ∀ (i : Instr) (c : Square) (s s' t t' : State), getSquare s c = getSquare s' c → s.apuParity = s'.apuParity →
    s.frameCtr = s'.frameCtr → s.quarterCount = s'.quarterCount →
    exec i s = .next t → exec i s' = .next t' → getSquare t c = getSquare t' c

/-! ### The mixer -/

/-- 44_mixer.md R330, R331 to R336: the sample, the filter's new state, the drained buffers, and nothing else. -/
def Obligations.AudioAmplitudeMixesAndDrains : Prop :=
  ∀ (s : State) (y : Int),
    y = s.mixPrev + ((averageOf Config.params s - s.mixPrev) * 65371).tdiv 65536 →
    exec .am s = .next
      { s with
        mixPrev := y, sq1Buf := [], sq2Buf := [], dmcBuf := [], sampleCount := 0, reply := .sample y, extCalls := [] }

/-- 44_mixer.md R335 (the spec's own inference): the filter's output lies between its previous output and the average, both included. -/
def Obligations.FilterStaysBetween : Prop :=
  ∀ prev avg : Int, min prev avg ≤ smooth prev avg ∧ smooth prev avg ≤ max prev avg ∧
    ∀ x : Int, |(x * 65371).tdiv 65536| ≤ |x|

/-- 44_mixer.md R333 (the spec's own inference): with MIX_SCALE = 16384, samples of at most 15 and a DMC sample of at most 127 mix to a value in
[0, 13644), and no larger value than that of the largest samples. -/
def Obligations.MixedSampleStaysBelow13644 : Prop :=
  ∀ (p : Params) (a b d : Nat), p.mixScale = 16384 → a ≤ 15 → b ≤ 15 → d ≤ 127 →
    0 ≤ scaledSample p a b d ∧ scaledSample p a b d < 13644 ∧ scaledSample p a b d ≤ scaledSample p 15 15 127

/-! ### The multiplier -/

/-- 45_multiplier.md R360 to R363: writing either operand recomputes the product at once; the two result reads return the
product's low and high byte and change nothing. -/
def Obligations.MultiplierWritesAndReads : Prop :=
  ∀ (v : Byte) (s : State),
    exec (.bwMulA v) s = .next
      { stored 42 v s with mulA := v, product := BitVec.ofNat 16 (v.toNat * s.mulB.toNat) } ∧
    exec (.bwMulB v) s = .next
      { stored 43 v s with mulB := v, product := BitVec.ofNat 16 (s.mulA.toNat * v.toNat) } ∧
    exec .brMulLo s = .next (answered (BitVec.ofNat 8 (s.product.toNat % 256)) s) ∧
    exec .brMulHi s = .next (answered (BitVec.ofNat 8 (s.product.toNat / 256)) s)

/-- 10_state.md R48: operands and product are 0 at reset, and every step keeps the product that of the operands. -/
def Obligations.ProductStaysThatOfTheOperands : Prop :=
  (State.reset.mulA = 0 ∧ State.reset.mulB = 0 ∧ State.reset.product = 0) ∧
    ∀ s t, (s.product.toNat = s.mulA.toNat * s.mulB.toNat) → step s = .next t →
      t.product.toNat = t.mulA.toNat * t.mulB.toNat

/-! ### Reset and the whole machine -/

/-- 70_reset_and_hazards.md R430, R431, R433: a reset, soft or hard, from any state sets every field as R430 says, leaving
the mask and the memories (and the model's own calls and draws) unchanged, and makes the two external calls; a created
unit is in the state a reset establishes, with all channels audible. -/
def Obligations.ResetEstablishesTheResetState : Prop :=
  (∀ (soft : Bool) (s : State),
    exec (.rs soft) s = .next
      { s with
        reg := Vector.ofFn fun k : Fin 44 =>
          if k.val = 11 then 0x03#8 else if 20 ≤ k.val ∧ k.val ≤ 23 then 0xFF#8 else 0x00#8
        prgMode := 3, chrMode := 0, chrHigh := 0, chrHi := Vector.ofFn fun _ => 0
        prgWin := Vector.ofFn fun _ => ⟨.rom, 0x7F % Config.params.prgRomPages⟩
        lowRamPage := 0, chrSlot := Vector.ofFn fun i : Fin 12 => i.val % 8
        protA := 0, protB := 0, irqStatus := 0, irqEnable := false, irqTarget := 0, irqLine := false, ppuCycle := 0
        mulA := 0, mulB := 0, product := 0, sq1 := zeroChannel, sq2 := zeroChannel
        dmcCtrl := 0, dmcDac := 0, dmcEnabled := true, apuParity := false, frameCtr := 0, quarterCount := 0
        sq1Buf := [], sq2Buf := [], dmcBuf := [], sampleCount := 0, mixPrev := 0
        reply := .nothing, extCalls := [.releaseInterrupt, .mirrorConfigure 0 0 0 0] }) ∧
  State.reset.chanMask = 0b111 ∧
  ∃ t, exec (.rs false) State.reset = .next t ∧ t = { State.reset with reply := t.reply, extCalls := t.extCalls }

/-- 10_state.md R33 to R54: the values the spec gives the unit at creation, for every register and every other field it
gives a reset value; the bytes of the memories are draws (70_reset_and_hazards.md R432). -/
def Obligations.CreationValues : Prop :=
  (∀ k : Fin 44, State.reset.reg[k.val] =
    if k.val = 11 then 0x03#8 else if 20 ≤ k.val ∧ k.val ≤ 23 then 0xFF#8 else 0x00#8) ∧
  State.reset.prgMode = 3 ∧ State.reset.chrMode = 0 ∧ State.reset.chrHigh = 0 ∧
  (∀ r : Fin 12, State.reset.chrHi[r.val] = 0 ∧ State.reset.chrSlot[r.val] = r.val % 8) ∧
  (∀ w : Fin 4, State.reset.prgWin[w.val] = ⟨.rom, 0x7F % Config.params.prgRomPages⟩) ∧
  State.reset.lowRamPage = 0 ∧ State.reset.protA = 0 ∧ State.reset.protB = 0 ∧ State.reset.irqStatus = 0 ∧
  State.reset.irqEnable = false ∧ State.reset.irqTarget = 0 ∧ State.reset.irqLine = false ∧
  State.reset.ppuCycle = 0 ∧ State.reset.mulA = 0 ∧ State.reset.mulB = 0 ∧ State.reset.product = 0 ∧
  State.reset.sq1 = zeroChannel ∧ State.reset.sq2 = zeroChannel ∧ State.reset.dmcCtrl = 0 ∧
  State.reset.dmcDac = 0 ∧ State.reset.dmcEnabled = true ∧ State.reset.apuParity = false ∧
  State.reset.frameCtr = 0 ∧ State.reset.quarterCount = 0 ∧ State.reset.sq1Buf = [] ∧
  State.reset.sq2Buf = [] ∧ State.reset.dmcBuf = [] ∧ State.reset.sampleCount = 0 ∧ State.reset.mixPrev = 0 ∧ State.reset.chanMask = 0b111

/-- 20_memory.md R86: of all reads only that of `$5204` has a side effect; a second read with no call between returns the
same, unless it is a draw (the second is the spec's own inference). -/
def Obligations.OtherReadsHaveNoSideEffect : Prop :=
  ∀ (i : Instr) (s t : State),
    (i = .brSndStatus ∨ i = .brMulLo ∨ i = .brMulHi ∨ (∃ off, i = .brPrgRamLo off) ∨ (∃ a, i = .brHigh a) ∨
      (∃ a, i = .brUndriven a) ∨ (∃ a, i = .pr a) ∨ ∃ a, i = .dr a) →
    exec i s = .next t →
    t = { s with reply := t.reply, extCalls := [], drawCtr := t.drawCtr } ∧
    (t.drawCtr = s.drawCtr → exec i t = .next t)

/-- Every invariant of Safety.lean holds of the unit as it is created. All but one are what the spec says of the unit at
every step or what its rules imply; `MemoryCanonical`, and the list of offsets of which `MemoryBounded` speaks, are the
model's own (notes/assumptions/4.md). -/
def Obligations.CreatedUnitIsGood : Prop := Good State.reset

/-- Every step keeps every invariant of Safety.lean: the memories' canonical form and bounds, the windows' ranges, the
derived tables, the latches and their registers, the status bits, the line, the product, the channels, the buffers. The
canonical form (`MemoryCanonical`), and the list of offsets of which `MemoryBounded` speaks, are the model's own
(notes/assumptions/4.md); the rest is what the spec says of the unit at every step or what its rules imply. -/
def Obligations.EveryStepKeepsTheInvariants : Prop := ∀ s t, Good s → step s = .next t → Good t

/-- 60_exceptions.md R402: where the invariants hold, no step forms an offset outside its memory. -/
def Obligations.NoStepLeavesTheMemories : Prop := ∀ s, Good s → StepSafe s

/-- The frame of the memories, over all operations: PRG-RAM changes only by the two RAM writes, CHR memory only by a
pattern write, and the ROMs never, being parameters (10_state.md R55, R57). -/
def Obligations.OnlyRamWritesChangeMemory : Prop :=
  ∀ (i : Instr) (s t : State), exec i s = .next t →
    ((∀ o v, i ≠ .bwPrgRamLo o v) → (∀ a v, i ≠ .bwHigh a v) → t.prgRam = s.prgRam) ∧
    ((∀ a v, i ≠ .pw a v) → t.chrMem = s.chrMem)
end

