-- ==== Sys2Proof/Laws/Operands.lean ====
section
/-!
SUPPORT. The operand fields and the arithmetic of the unit, in arithmetic on numbers.
-/
namespace Sys2Proof.Machine

/-! ### Bits and fields of any word -/

/-- Bit k of a word, by division. -/
theorem getLsbD_eq_div {n : Nat} (v : BitVec n) (k : Nat) : v.getLsbD k = decide (v.toNat / 2 ^ k % 2 = 1) := by
  simp [BitVec.getLsbD, Nat.testBit_eq_decide_div_mod_eq]

/-- A field of a word, by division. -/
theorem extractLsb'_eq_div {n : Nat} (v : BitVec n) (k m : Nat) :
    v.extractLsb' k m = BitVec.ofNat m (v.toNat / 2 ^ k) := by
  apply BitVec.eq_of_toNat_eq; simp [Nat.shiftRight_eq_div_pow]

/-- Two words side by side. -/
theorem toNat_append_eq {m n : Nat} (x : BitVec m) (y : BitVec n) : (x ++ y).toNat = x.toNat * 2 ^ n + y.toNat := by
  rw [BitVec.toNat_append, ← Nat.shiftLeft_add_eq_or_of_lt y.isLt, Nat.shiftLeft_eq]

/-! ### The fields of a data byte (spec/30_encoding.md R116) -/

theorem lowField_eq (v : Byte) : lowField v = BitVec.ofNat 2 v.toNat := by simp [lowField, extractLsb'_eq_div]

theorem lowThree_eq (v : Byte) : lowThree v = BitVec.ofNat 3 v.toNat := by simp [lowThree, extractLsb'_eq_div]

theorem volField_eq (v : Byte) : volField v = BitVec.ofNat 4 v.toNat := by simp [volField, extractLsb'_eq_div]

theorem dutyField_eq (v : Byte) : dutyField v = BitVec.ofNat 2 (v.toNat / 64) := extractLsb'_eq_div ..

theorem sweepPeriodField_eq (v : Byte) : sweepPeriodField v = BitVec.ofNat 3 (v.toNat / 16) := extractLsb'_eq_div ..

theorem lengthIndex_eq (v : Byte) : lengthIndex v = BitVec.ofNat 5 (v.toNat / 8) := extractLsb'_eq_div ..

theorem quadrant_eq (v : Byte) (k : Nat) : quadrant v k = BitVec.ofNat 2 (v.toNat / 2 ^ (2 * k)) :=
  extractLsb'_eq_div ..

theorem topBit_eq (v : Byte) : topBit v = decide (128 ≤ v.toNat) := by
  have := v.isLt
  rw [topBit, getLsbD_eq_div]; congr 1; simp; omega

theorem haltBit_eq (v : Byte) : haltBit v = decide (v.toNat / 32 % 2 = 1) := getLsbD_eq_div ..

theorem constVolBit_eq (v : Byte) : constVolBit v = decide (v.toNat / 16 % 2 = 1) := getLsbD_eq_div ..

theorem sweepNegBit_eq (v : Byte) : sweepNegBit v = decide (v.toNat / 8 % 2 = 1) := getLsbD_eq_div ..

/-! ### The fields of an address -/

@[simp] theorem windowOf_toNat (a : BitVec 15) : (windowOf a).toNat = a.toNat / 8192 := by
  have := a.isLt
  simp [windowOf, Nat.shiftRight_eq_div_pow]; omega

@[simp] theorem windowOffset_toNat (a : BitVec 15) : (windowOffset a).toNat = a.toNat % 8192 := by simp [windowOffset]

@[simp] theorem spriteSlot_toNat (a : PatternAddr) : (spriteSlot a).toNat = a.toNat / 1024 := by
  have := a.isLt
  simp [spriteSlot, Nat.shiftRight_eq_div_pow]; omega

@[simp] theorem backgroundSlot_toNat (a : PatternAddr) : (backgroundSlot a).toNat = a.toNat / 1024 % 4 := by
  simp [backgroundSlot, Nat.shiftRight_eq_div_pow]

@[simp] theorem patternOffset_toNat (a : PatternAddr) : (patternOffset a).toNat = a.toNat % 1024 := by
  simp [patternOffset]

/-! ### Bank bytes, the timer's halves, the product -/

/-- The page of a bank byte aligned to windows of 8, 16 and 32 KB (spec/40_bank_switch.md R143). -/
theorem bankPage_8k (v : Byte) (k : Nat) : bankPage v 0x7F#8 k = v.toNat % 128 + k := by
  have h : ∀ v : Byte, (v &&& 0x7F#8 &&& 0x7F#8).toNat = v.toNat % 128 := by decide
  rw [bankPage, h]

theorem bankPage_16k (v : Byte) (k : Nat) : bankPage v 0x7E#8 k = v.toNat % 128 / 2 * 2 + k := by
  have h : ∀ v : Byte, (v &&& 0x7F#8 &&& 0x7E#8).toNat = v.toNat % 128 / 2 * 2 := by decide
  rw [bankPage, h]

theorem bankPage_32k (v : Byte) (k : Nat) : bankPage v 0x7C#8 k = v.toNat % 128 / 4 * 4 + k := by
  have h : ∀ v : Byte, (v &&& 0x7F#8 &&& 0x7C#8).toNat = v.toNat % 128 / 4 * 4 := by decide
  rw [bankPage, h]

theorem squareTimerLow_period (v : Byte) (q : SquareChan) :
    (squareTimerLow v q).timerPeriod.toNat = q.timerPeriod.toNat / 256 * 256 + v.toNat := by
  have := q.timerPeriod.isLt
  refine (toNat_append_eq (q.timerPeriod.extractLsb' 8 3) v).trans ?_
  simp [Nat.shiftRight_eq_div_pow]; omega

theorem squareLength_period (v : Byte) (q : SquareChan) :
    (squareLength v q).timerPeriod.toNat = v.toNat % 8 * 256 + q.timerPeriod.toNat % 256 := by
  refine (toNat_append_eq (lowThree v) (q.timerPeriod.extractLsb' 0 8)).trans ?_
  simp [lowThree]

/-- The product of two bytes always fits (spec/45_multiplier.md R364). -/
theorem product8_toNat (a b : Byte) : (product8 a b).toNat = a.toNat * b.toNat := by
  have h : a.toNat * b.toNat < 65536 := by
    calc a.toNat * b.toNat ≤ 255 * 255 := Nat.mul_le_mul (by omega) (by omega)
      _ < 65536 := by decide
  simpa [product8] using h

end Sys2Proof.Machine
end

