-- ==== Sys2Proof/Laws/Encoding.lean ====
section
/-!
SUPPORT. An operation word and its four fields determine each other.
-/
namespace Sys2Proof

open Sys2Proof.Machine

/-- A word by its fields, in arithmetic (spec/30_encoding.md R111). -/
theorem packFields_toNat (f : Fields) :
    (packFields f).toNat = f.kind.toNat * 2 ^ 28 + f.zero.toNat * 2 ^ 24 + f.data.toNat * 2 ^ 16 + f.addr.toNat := by
  obtain ⟨k, z, d, a⟩ := f
  refine (toNat_append_eq (k ++ z ++ d) a).trans ?_
  rw [toNat_append_eq, toNat_append_eq]; dsimp only; omega

@[simp] theorem fieldsOf_packFields (f : Fields) : fieldsOf (packFields f) = f := by
  have := f.kind.isLt; have := f.zero.isLt; have := f.data.isLt; have := f.addr.isLt
  obtain ⟨k, z, d, a⟩ := f
  simp only [fieldsOf, extractLsb'_eq_div, packFields_toNat, Fields.mk.injEq]
  refine ⟨?_, ?_, ?_, ?_⟩ <;> apply BitVec.eq_of_toNat_eq <;> simp <;> simp at * <;> omega

@[simp] theorem packFields_fieldsOf (w : OpWord) : packFields (fieldsOf w) = w := by
  apply BitVec.eq_of_toNat_eq
  have := w.isLt
  rw [packFields_toNat]; simp [fieldsOf, Nat.shiftRight_eq_div_pow]; omega

end Sys2Proof
end

