-- ==== Sys2Proof/Laws/Memory.lean ====
section
/-!
SUPPORT. The laws of the memories: a read after a write, and the canonical form every operation keeps.
-/
namespace Sys2Proof.Machine

theorem Memory.lookup_insert (m : Memory) (a b : Nat) (v : Byte) :
    Memory.lookup (Memory.insert m a v) b = if b = a then some v else Memory.lookup m b := by
  induction m with
  | nil => simp [Memory.insert, Memory.lookup]
  | cons c rest ih =>
    obtain ⟨k, w⟩ := c
    simp only [Memory.insert]
    split
    · by_cases h : b = a <;> simp [Memory.lookup, h]
    · split
      · subst k; by_cases h : b = a <;> simp [Memory.lookup, h]
      · by_cases hk : b = k
        · subst k; simp [Memory.lookup, show b ≠ a by omega]
        · simp [Memory.lookup, hk, ih]

theorem Memory.lookup_remove (m : Memory) (a b : Nat) :
    Memory.lookup (Memory.remove m a) b = if b = a then none else Memory.lookup m b := by
  induction m with
  | nil => simp [Memory.remove, Memory.lookup]
  | cons c rest ih =>
    obtain ⟨k, w⟩ := c
    simp only [Memory.remove]
    split
    · subst k; rw [ih]; by_cases h : b = a <;> simp [Memory.lookup, h]
    · by_cases hk : b = k
      · subst k; simp [Memory.lookup, show b ≠ a by omega]
      · simp [Memory.lookup, hk, ih]

/-- Reading any offset after a write: the byte written at its own offset, what was there elsewhere. -/
theorem Memory.read_write (u : Nat → Byte) (m : Memory) (a b : Nat) (v : Byte) :
    Memory.read u (Memory.write u m a v) b = if b = a then v else Memory.read u m b := by
  by_cases h : b = a
  · by_cases hv : v = u a <;> simp [Memory.read, Memory.write, hv, Memory.lookup_insert, Memory.lookup_remove, h]
  · by_cases hv : v = u a <;> simp [Memory.read, Memory.write, hv, Memory.lookup_insert, Memory.lookup_remove, h]

@[simp] theorem Memory.read_write_same (u : Nat → Byte) (m : Memory) (a : Nat) (v : Byte) :
    Memory.read u (Memory.write u m a v) a = v := by simp [Memory.read_write]

theorem Memory.read_write_other (u : Nat → Byte) (m : Memory) {a b : Nat} (v : Byte) (h : b ≠ a) :
    Memory.read u (Memory.write u m a v) b = Memory.read u m b := by simp [Memory.read_write, h]

@[simp] theorem Memory.read_nil (u : Nat → Byte) (a : Nat) : Memory.read u [] a = u a := rfl

@[simp] theorem Memory.wf_nil (u : Nat → Byte) : Memory.wf u [] = true := rfl

theorem Memory.aboveBound_iff (lo : Option Nat) (a : Nat) :
    Memory.aboveBound lo a = true ↔ ∀ b, lo = some b → b < a := by
  cases lo <;> simp [Memory.aboveBound]

/-- What the canonical form says of a memory with a first entry. -/
theorem Memory.wfAbove_cons (u : Nat → Byte) (lo : Option Nat) (a : Nat) (v : Byte) (rest : Memory) :
    Memory.wfAbove u lo ((a, v) :: rest) = true ↔
      (∀ b, lo = some b → b < a) ∧ v ≠ u a ∧ Memory.wfAbove u (some a) rest = true := by
  simp only [Memory.wfAbove, Bool.and_eq_true, decide_eq_true_eq, Memory.aboveBound_iff, and_assoc]

/-- A bound that lies below every offset may be replaced by a lower one. -/
theorem Memory.wfAbove_weaken {u : Nat → Byte} {m : Memory} {k : Nat} (lo : Option Nat)
    (hlo : ∀ b, lo = some b → b ≤ k) (h : Memory.wfAbove u (some k) m = true) : Memory.wfAbove u lo m = true := by
  cases m with
  | nil => rfl
  | cons c rest =>
    obtain ⟨hk, hv, hr⟩ := (Memory.wfAbove_cons ..).1 h
    exact (Memory.wfAbove_cons ..).2 ⟨fun b hb => lt_of_le_of_lt (hlo b hb) (hk k rfl), hv, hr⟩

theorem Memory.wfAbove_remove {u : Nat → Byte} {m : Memory} (a : Nat) {lo : Option Nat}
    (h : Memory.wfAbove u lo m = true) : Memory.wfAbove u lo (Memory.remove m a) = true := by
  induction m generalizing lo with
  | nil => rfl
  | cons c rest ih =>
    obtain ⟨k, w⟩ := c
    obtain ⟨hlo, hw, hr⟩ := (Memory.wfAbove_cons ..).1 h
    simp only [Memory.remove]
    split
    · exact ih (Memory.wfAbove_weaken lo (fun b hb => le_of_lt (hlo b hb)) hr)
    · exact (Memory.wfAbove_cons ..).2 ⟨hlo, hw, ih hr⟩

theorem Memory.wfAbove_insert {u : Nat → Byte} {m : Memory} {a : Nat} {v : Byte} {lo : Option Nat}
    (hv : v ≠ u a) (ha : ∀ b, lo = some b → b < a) (h : Memory.wfAbove u lo m = true) :
    Memory.wfAbove u lo (Memory.insert m a v) = true := by
  induction m generalizing lo with
  | nil => exact (Memory.wfAbove_cons ..).2 ⟨ha, hv, rfl⟩
  | cons c rest ih =>
    obtain ⟨k, w⟩ := c
    obtain ⟨hlo, hw, hr⟩ := (Memory.wfAbove_cons ..).1 h
    simp only [Memory.insert]
    split
    next hak =>
      refine (Memory.wfAbove_cons ..).2 ⟨ha, hv, (Memory.wfAbove_cons ..).2 ⟨?_, hw, hr⟩⟩
      rintro b hb
      obtain rfl : a = b := by simpa using hb
      exact hak
    next hak =>
      split
      next hkk => subst k; exact (Memory.wfAbove_cons ..).2 ⟨ha, hv, hr⟩
      next hkk =>
        refine (Memory.wfAbove_cons ..).2 ⟨hlo, hw, ih ?_ hr⟩
        rintro b hb
        obtain rfl : k = b := by simpa using hb
        omega

/-- Every write keeps the canonical form. -/
theorem Memory.wf_write {u : Nat → Byte} {m : Memory} (a : Nat) (v : Byte) (h : Memory.wf u m = true) :
    Memory.wf u (Memory.write u m a v) = true := by
  unfold Memory.write
  split
  · exact Memory.wfAbove_remove a h
  · exact Memory.wfAbove_insert ‹_› (by simp) h

theorem Memory.mem_remove {m : Memory} {a : Nat} {c : Host.Cell} (h : c ∈ Memory.remove m a) : c ∈ m := by
  induction m with
  | nil => exact h
  | cons d rest ih =>
    obtain ⟨k, w⟩ := d
    simp only [Memory.remove] at h
    split at h
    · exact List.mem_cons_of_mem _ (ih h)
    · rcases List.mem_cons.1 h with rfl | h
      · exact List.mem_cons_self
      · exact List.mem_cons_of_mem _ (ih h)

theorem Memory.mem_insert {m : Memory} {a : Nat} {v : Byte} {c : Host.Cell} (h : c ∈ Memory.insert m a v) :
    c = (a, v) ∨ c ∈ m := by
  induction m with
  | nil => simpa [Memory.insert] using h
  | cons d rest ih =>
    obtain ⟨k, w⟩ := d
    simp only [Memory.insert] at h
    split at h
    · simpa using h
    · split at h
      · rcases List.mem_cons.1 h with h | h <;> simp [h]
      · rcases List.mem_cons.1 h with h | h
        · simp [h]
        · rcases ih h with h | h <;> simp [h]

/-- A write lists no offset but its own and those listed before. -/
theorem Memory.mem_write {u : Nat → Byte} {m : Memory} {a : Nat} {v : Byte} {c : Host.Cell}
    (h : c ∈ Memory.write u m a v) : c.1 = a ∨ c ∈ m := by
  unfold Memory.write at h
  split at h
  · exact .inr (Memory.mem_remove h)
  · rcases Memory.mem_insert h with rfl | h
    · exact .inl rfl
    · exact .inr h

end Sys2Proof.Machine
end

