-- ==== Sys2Proof/Laws/State.lean ====
section
/-!
SUPPORT. One lemma per field per shared update of the state, and the laws of the raw registers.
-/
namespace Sys2Proof.Machine

/-! ### startCall -/

@[simp] theorem startCall_reg (s : State) : (startCall s).reg = s.reg := rfl
@[simp] theorem startCall_prgMode (s : State) : (startCall s).prgMode = s.prgMode := rfl
@[simp] theorem startCall_chrMode (s : State) : (startCall s).chrMode = s.chrMode := rfl
@[simp] theorem startCall_chrHigh (s : State) : (startCall s).chrHigh = s.chrHigh := rfl
@[simp] theorem startCall_chrHi (s : State) : (startCall s).chrHi = s.chrHi := rfl
@[simp] theorem startCall_prgWin (s : State) : (startCall s).prgWin = s.prgWin := rfl
@[simp] theorem startCall_lowRamPage (s : State) : (startCall s).lowRamPage = s.lowRamPage := rfl
@[simp] theorem startCall_chrSlot (s : State) : (startCall s).chrSlot = s.chrSlot := rfl
@[simp] theorem startCall_protA (s : State) : (startCall s).protA = s.protA := rfl
@[simp] theorem startCall_protB (s : State) : (startCall s).protB = s.protB := rfl
@[simp] theorem startCall_irqStatus (s : State) : (startCall s).irqStatus = s.irqStatus := rfl
@[simp] theorem startCall_irqEnable (s : State) : (startCall s).irqEnable = s.irqEnable := rfl
@[simp] theorem startCall_irqTarget (s : State) : (startCall s).irqTarget = s.irqTarget := rfl
@[simp] theorem startCall_irqLine (s : State) : (startCall s).irqLine = s.irqLine := rfl
@[simp] theorem startCall_ppuCycle (s : State) : (startCall s).ppuCycle = s.ppuCycle := rfl
@[simp] theorem startCall_mulA (s : State) : (startCall s).mulA = s.mulA := rfl
@[simp] theorem startCall_mulB (s : State) : (startCall s).mulB = s.mulB := rfl
@[simp] theorem startCall_product (s : State) : (startCall s).product = s.product := rfl
@[simp] theorem startCall_sq1 (s : State) : (startCall s).sq1 = s.sq1 := rfl
@[simp] theorem startCall_sq2 (s : State) : (startCall s).sq2 = s.sq2 := rfl
@[simp] theorem startCall_dmcCtrl (s : State) : (startCall s).dmcCtrl = s.dmcCtrl := rfl
@[simp] theorem startCall_dmcDac (s : State) : (startCall s).dmcDac = s.dmcDac := rfl
@[simp] theorem startCall_dmcEnabled (s : State) : (startCall s).dmcEnabled = s.dmcEnabled := rfl
@[simp] theorem startCall_apuParity (s : State) : (startCall s).apuParity = s.apuParity := rfl
@[simp] theorem startCall_frameCtr (s : State) : (startCall s).frameCtr = s.frameCtr := rfl
@[simp] theorem startCall_quarterCount (s : State) : (startCall s).quarterCount = s.quarterCount := rfl
@[simp] theorem startCall_sq1Buf (s : State) : (startCall s).sq1Buf = s.sq1Buf := rfl
@[simp] theorem startCall_sq2Buf (s : State) : (startCall s).sq2Buf = s.sq2Buf := rfl
@[simp] theorem startCall_dmcBuf (s : State) : (startCall s).dmcBuf = s.dmcBuf := rfl
@[simp] theorem startCall_sampleCount (s : State) : (startCall s).sampleCount = s.sampleCount := rfl
@[simp] theorem startCall_mixPrev (s : State) : (startCall s).mixPrev = s.mixPrev := rfl
@[simp] theorem startCall_chanMask (s : State) : (startCall s).chanMask = s.chanMask := rfl
@[simp] theorem startCall_prgRam (s : State) : (startCall s).prgRam = s.prgRam := rfl
@[simp] theorem startCall_chrMem (s : State) : (startCall s).chrMem = s.chrMem := rfl
@[simp] theorem startCall_calls (s : State) : (startCall s).calls = s.calls := rfl
@[simp] theorem startCall_reply (s : State) : (startCall s).reply = s.reply := rfl
@[simp] theorem startCall_extCalls (s : State) : (startCall s).extCalls = [] := rfl
@[simp] theorem startCall_drawCtr (s : State) : (startCall s).drawCtr = s.drawCtr := rfl

/-! ### callOut -/

@[simp] theorem callOut_reg (x : ExtCall) (s : State) : (callOut x s).reg = s.reg := rfl
@[simp] theorem callOut_prgMode (x : ExtCall) (s : State) : (callOut x s).prgMode = s.prgMode := rfl
@[simp] theorem callOut_chrMode (x : ExtCall) (s : State) : (callOut x s).chrMode = s.chrMode := rfl
@[simp] theorem callOut_chrHigh (x : ExtCall) (s : State) : (callOut x s).chrHigh = s.chrHigh := rfl
@[simp] theorem callOut_chrHi (x : ExtCall) (s : State) : (callOut x s).chrHi = s.chrHi := rfl
@[simp] theorem callOut_prgWin (x : ExtCall) (s : State) : (callOut x s).prgWin = s.prgWin := rfl
@[simp] theorem callOut_lowRamPage (x : ExtCall) (s : State) : (callOut x s).lowRamPage = s.lowRamPage := rfl
@[simp] theorem callOut_chrSlot (x : ExtCall) (s : State) : (callOut x s).chrSlot = s.chrSlot := rfl
@[simp] theorem callOut_protA (x : ExtCall) (s : State) : (callOut x s).protA = s.protA := rfl
@[simp] theorem callOut_protB (x : ExtCall) (s : State) : (callOut x s).protB = s.protB := rfl
@[simp] theorem callOut_irqStatus (x : ExtCall) (s : State) : (callOut x s).irqStatus = s.irqStatus := rfl
@[simp] theorem callOut_irqEnable (x : ExtCall) (s : State) : (callOut x s).irqEnable = s.irqEnable := rfl
@[simp] theorem callOut_irqTarget (x : ExtCall) (s : State) : (callOut x s).irqTarget = s.irqTarget := rfl
@[simp] theorem callOut_irqLine (x : ExtCall) (s : State) : (callOut x s).irqLine = s.irqLine := rfl
@[simp] theorem callOut_ppuCycle (x : ExtCall) (s : State) : (callOut x s).ppuCycle = s.ppuCycle := rfl
@[simp] theorem callOut_mulA (x : ExtCall) (s : State) : (callOut x s).mulA = s.mulA := rfl
@[simp] theorem callOut_mulB (x : ExtCall) (s : State) : (callOut x s).mulB = s.mulB := rfl
@[simp] theorem callOut_product (x : ExtCall) (s : State) : (callOut x s).product = s.product := rfl
@[simp] theorem callOut_sq1 (x : ExtCall) (s : State) : (callOut x s).sq1 = s.sq1 := rfl
@[simp] theorem callOut_sq2 (x : ExtCall) (s : State) : (callOut x s).sq2 = s.sq2 := rfl
@[simp] theorem callOut_dmcCtrl (x : ExtCall) (s : State) : (callOut x s).dmcCtrl = s.dmcCtrl := rfl
@[simp] theorem callOut_dmcDac (x : ExtCall) (s : State) : (callOut x s).dmcDac = s.dmcDac := rfl
@[simp] theorem callOut_dmcEnabled (x : ExtCall) (s : State) : (callOut x s).dmcEnabled = s.dmcEnabled := rfl
@[simp] theorem callOut_apuParity (x : ExtCall) (s : State) : (callOut x s).apuParity = s.apuParity := rfl
@[simp] theorem callOut_frameCtr (x : ExtCall) (s : State) : (callOut x s).frameCtr = s.frameCtr := rfl
@[simp] theorem callOut_quarterCount (x : ExtCall) (s : State) : (callOut x s).quarterCount = s.quarterCount := rfl
@[simp] theorem callOut_sq1Buf (x : ExtCall) (s : State) : (callOut x s).sq1Buf = s.sq1Buf := rfl
@[simp] theorem callOut_sq2Buf (x : ExtCall) (s : State) : (callOut x s).sq2Buf = s.sq2Buf := rfl
@[simp] theorem callOut_dmcBuf (x : ExtCall) (s : State) : (callOut x s).dmcBuf = s.dmcBuf := rfl
@[simp] theorem callOut_sampleCount (x : ExtCall) (s : State) : (callOut x s).sampleCount = s.sampleCount := rfl
@[simp] theorem callOut_mixPrev (x : ExtCall) (s : State) : (callOut x s).mixPrev = s.mixPrev := rfl
@[simp] theorem callOut_chanMask (x : ExtCall) (s : State) : (callOut x s).chanMask = s.chanMask := rfl
@[simp] theorem callOut_prgRam (x : ExtCall) (s : State) : (callOut x s).prgRam = s.prgRam := rfl
@[simp] theorem callOut_chrMem (x : ExtCall) (s : State) : (callOut x s).chrMem = s.chrMem := rfl
@[simp] theorem callOut_calls (x : ExtCall) (s : State) : (callOut x s).calls = s.calls := rfl
@[simp] theorem callOut_reply (x : ExtCall) (s : State) : (callOut x s).reply = s.reply := rfl
@[simp] theorem callOut_extCalls (x : ExtCall) (s : State) : (callOut x s).extCalls = s.extCalls ++ [x] := rfl
@[simp] theorem callOut_drawCtr (x : ExtCall) (s : State) : (callOut x s).drawCtr = s.drawCtr := rfl

/-! ### setReg -/

@[simp] theorem setReg_reg (i : Fin 44) (v : Byte) (s : State) : (setReg i v s).reg = s.reg.set i.val v := rfl
@[simp] theorem setReg_prgMode (i : Fin 44) (v : Byte) (s : State) : (setReg i v s).prgMode = s.prgMode := rfl
@[simp] theorem setReg_chrMode (i : Fin 44) (v : Byte) (s : State) : (setReg i v s).chrMode = s.chrMode := rfl
@[simp] theorem setReg_chrHigh (i : Fin 44) (v : Byte) (s : State) : (setReg i v s).chrHigh = s.chrHigh := rfl
@[simp] theorem setReg_chrHi (i : Fin 44) (v : Byte) (s : State) : (setReg i v s).chrHi = s.chrHi := rfl
@[simp] theorem setReg_prgWin (i : Fin 44) (v : Byte) (s : State) : (setReg i v s).prgWin = s.prgWin := rfl
@[simp] theorem setReg_lowRamPage (i : Fin 44) (v : Byte) (s : State) : (setReg i v s).lowRamPage = s.lowRamPage := rfl
@[simp] theorem setReg_chrSlot (i : Fin 44) (v : Byte) (s : State) : (setReg i v s).chrSlot = s.chrSlot := rfl
@[simp] theorem setReg_protA (i : Fin 44) (v : Byte) (s : State) : (setReg i v s).protA = s.protA := rfl
@[simp] theorem setReg_protB (i : Fin 44) (v : Byte) (s : State) : (setReg i v s).protB = s.protB := rfl
@[simp] theorem setReg_irqStatus (i : Fin 44) (v : Byte) (s : State) : (setReg i v s).irqStatus = s.irqStatus := rfl
@[simp] theorem setReg_irqEnable (i : Fin 44) (v : Byte) (s : State) : (setReg i v s).irqEnable = s.irqEnable := rfl
@[simp] theorem setReg_irqTarget (i : Fin 44) (v : Byte) (s : State) : (setReg i v s).irqTarget = s.irqTarget := rfl
@[simp] theorem setReg_irqLine (i : Fin 44) (v : Byte) (s : State) : (setReg i v s).irqLine = s.irqLine := rfl
@[simp] theorem setReg_ppuCycle (i : Fin 44) (v : Byte) (s : State) : (setReg i v s).ppuCycle = s.ppuCycle := rfl
@[simp] theorem setReg_mulA (i : Fin 44) (v : Byte) (s : State) : (setReg i v s).mulA = s.mulA := rfl
@[simp] theorem setReg_mulB (i : Fin 44) (v : Byte) (s : State) : (setReg i v s).mulB = s.mulB := rfl
@[simp] theorem setReg_product (i : Fin 44) (v : Byte) (s : State) : (setReg i v s).product = s.product := rfl
@[simp] theorem setReg_sq1 (i : Fin 44) (v : Byte) (s : State) : (setReg i v s).sq1 = s.sq1 := rfl
@[simp] theorem setReg_sq2 (i : Fin 44) (v : Byte) (s : State) : (setReg i v s).sq2 = s.sq2 := rfl
@[simp] theorem setReg_dmcCtrl (i : Fin 44) (v : Byte) (s : State) : (setReg i v s).dmcCtrl = s.dmcCtrl := rfl
@[simp] theorem setReg_dmcDac (i : Fin 44) (v : Byte) (s : State) : (setReg i v s).dmcDac = s.dmcDac := rfl
@[simp] theorem setReg_dmcEnabled (i : Fin 44) (v : Byte) (s : State) : (setReg i v s).dmcEnabled = s.dmcEnabled := rfl
@[simp] theorem setReg_apuParity (i : Fin 44) (v : Byte) (s : State) : (setReg i v s).apuParity = s.apuParity := rfl
@[simp] theorem setReg_frameCtr (i : Fin 44) (v : Byte) (s : State) : (setReg i v s).frameCtr = s.frameCtr := rfl
@[simp] theorem setReg_quarterCount (i : Fin 44) (v : Byte) (s : State) : (setReg i v s).quarterCount = s.quarterCount := rfl
@[simp] theorem setReg_sq1Buf (i : Fin 44) (v : Byte) (s : State) : (setReg i v s).sq1Buf = s.sq1Buf := rfl
@[simp] theorem setReg_sq2Buf (i : Fin 44) (v : Byte) (s : State) : (setReg i v s).sq2Buf = s.sq2Buf := rfl
@[simp] theorem setReg_dmcBuf (i : Fin 44) (v : Byte) (s : State) : (setReg i v s).dmcBuf = s.dmcBuf := rfl
@[simp] theorem setReg_sampleCount (i : Fin 44) (v : Byte) (s : State) : (setReg i v s).sampleCount = s.sampleCount := rfl
@[simp] theorem setReg_mixPrev (i : Fin 44) (v : Byte) (s : State) : (setReg i v s).mixPrev = s.mixPrev := rfl
@[simp] theorem setReg_chanMask (i : Fin 44) (v : Byte) (s : State) : (setReg i v s).chanMask = s.chanMask := rfl
@[simp] theorem setReg_prgRam (i : Fin 44) (v : Byte) (s : State) : (setReg i v s).prgRam = s.prgRam := rfl
@[simp] theorem setReg_chrMem (i : Fin 44) (v : Byte) (s : State) : (setReg i v s).chrMem = s.chrMem := rfl
@[simp] theorem setReg_calls (i : Fin 44) (v : Byte) (s : State) : (setReg i v s).calls = s.calls := rfl
@[simp] theorem setReg_reply (i : Fin 44) (v : Byte) (s : State) : (setReg i v s).reply = s.reply := rfl
@[simp] theorem setReg_extCalls (i : Fin 44) (v : Byte) (s : State) : (setReg i v s).extCalls = s.extCalls := rfl
@[simp] theorem setReg_drawCtr (i : Fin 44) (v : Byte) (s : State) : (setReg i v s).drawCtr = s.drawCtr := rfl

/-! ### assertLine -/

@[simp] theorem assertLine_reg (s : State) : (assertLine s).reg = s.reg := rfl
@[simp] theorem assertLine_prgMode (s : State) : (assertLine s).prgMode = s.prgMode := rfl
@[simp] theorem assertLine_chrMode (s : State) : (assertLine s).chrMode = s.chrMode := rfl
@[simp] theorem assertLine_chrHigh (s : State) : (assertLine s).chrHigh = s.chrHigh := rfl
@[simp] theorem assertLine_chrHi (s : State) : (assertLine s).chrHi = s.chrHi := rfl
@[simp] theorem assertLine_prgWin (s : State) : (assertLine s).prgWin = s.prgWin := rfl
@[simp] theorem assertLine_lowRamPage (s : State) : (assertLine s).lowRamPage = s.lowRamPage := rfl
@[simp] theorem assertLine_chrSlot (s : State) : (assertLine s).chrSlot = s.chrSlot := rfl
@[simp] theorem assertLine_protA (s : State) : (assertLine s).protA = s.protA := rfl
@[simp] theorem assertLine_protB (s : State) : (assertLine s).protB = s.protB := rfl
@[simp] theorem assertLine_irqStatus (s : State) : (assertLine s).irqStatus = s.irqStatus := rfl
@[simp] theorem assertLine_irqEnable (s : State) : (assertLine s).irqEnable = s.irqEnable := rfl
@[simp] theorem assertLine_irqTarget (s : State) : (assertLine s).irqTarget = s.irqTarget := rfl
@[simp] theorem assertLine_irqLine (s : State) : (assertLine s).irqLine = true := rfl
@[simp] theorem assertLine_ppuCycle (s : State) : (assertLine s).ppuCycle = s.ppuCycle := rfl
@[simp] theorem assertLine_mulA (s : State) : (assertLine s).mulA = s.mulA := rfl
@[simp] theorem assertLine_mulB (s : State) : (assertLine s).mulB = s.mulB := rfl
@[simp] theorem assertLine_product (s : State) : (assertLine s).product = s.product := rfl
@[simp] theorem assertLine_sq1 (s : State) : (assertLine s).sq1 = s.sq1 := rfl
@[simp] theorem assertLine_sq2 (s : State) : (assertLine s).sq2 = s.sq2 := rfl
@[simp] theorem assertLine_dmcCtrl (s : State) : (assertLine s).dmcCtrl = s.dmcCtrl := rfl
@[simp] theorem assertLine_dmcDac (s : State) : (assertLine s).dmcDac = s.dmcDac := rfl
@[simp] theorem assertLine_dmcEnabled (s : State) : (assertLine s).dmcEnabled = s.dmcEnabled := rfl
@[simp] theorem assertLine_apuParity (s : State) : (assertLine s).apuParity = s.apuParity := rfl
@[simp] theorem assertLine_frameCtr (s : State) : (assertLine s).frameCtr = s.frameCtr := rfl
@[simp] theorem assertLine_quarterCount (s : State) : (assertLine s).quarterCount = s.quarterCount := rfl
@[simp] theorem assertLine_sq1Buf (s : State) : (assertLine s).sq1Buf = s.sq1Buf := rfl
@[simp] theorem assertLine_sq2Buf (s : State) : (assertLine s).sq2Buf = s.sq2Buf := rfl
@[simp] theorem assertLine_dmcBuf (s : State) : (assertLine s).dmcBuf = s.dmcBuf := rfl
@[simp] theorem assertLine_sampleCount (s : State) : (assertLine s).sampleCount = s.sampleCount := rfl
@[simp] theorem assertLine_mixPrev (s : State) : (assertLine s).mixPrev = s.mixPrev := rfl
@[simp] theorem assertLine_chanMask (s : State) : (assertLine s).chanMask = s.chanMask := rfl
@[simp] theorem assertLine_prgRam (s : State) : (assertLine s).prgRam = s.prgRam := rfl
@[simp] theorem assertLine_chrMem (s : State) : (assertLine s).chrMem = s.chrMem := rfl
@[simp] theorem assertLine_calls (s : State) : (assertLine s).calls = s.calls := rfl
@[simp] theorem assertLine_reply (s : State) : (assertLine s).reply = s.reply := rfl
@[simp] theorem assertLine_extCalls (s : State) : (assertLine s).extCalls = s.extCalls ++ [.assertInterrupt] := rfl
@[simp] theorem assertLine_drawCtr (s : State) : (assertLine s).drawCtr = s.drawCtr := rfl

/-! ### releaseLine -/

@[simp] theorem releaseLine_reg (s : State) : (releaseLine s).reg = s.reg := rfl
@[simp] theorem releaseLine_prgMode (s : State) : (releaseLine s).prgMode = s.prgMode := rfl
@[simp] theorem releaseLine_chrMode (s : State) : (releaseLine s).chrMode = s.chrMode := rfl
@[simp] theorem releaseLine_chrHigh (s : State) : (releaseLine s).chrHigh = s.chrHigh := rfl
@[simp] theorem releaseLine_chrHi (s : State) : (releaseLine s).chrHi = s.chrHi := rfl
@[simp] theorem releaseLine_prgWin (s : State) : (releaseLine s).prgWin = s.prgWin := rfl
@[simp] theorem releaseLine_lowRamPage (s : State) : (releaseLine s).lowRamPage = s.lowRamPage := rfl
@[simp] theorem releaseLine_chrSlot (s : State) : (releaseLine s).chrSlot = s.chrSlot := rfl
@[simp] theorem releaseLine_protA (s : State) : (releaseLine s).protA = s.protA := rfl
@[simp] theorem releaseLine_protB (s : State) : (releaseLine s).protB = s.protB := rfl
@[simp] theorem releaseLine_irqStatus (s : State) : (releaseLine s).irqStatus = s.irqStatus := rfl
@[simp] theorem releaseLine_irqEnable (s : State) : (releaseLine s).irqEnable = s.irqEnable := rfl
@[simp] theorem releaseLine_irqTarget (s : State) : (releaseLine s).irqTarget = s.irqTarget := rfl
@[simp] theorem releaseLine_irqLine (s : State) : (releaseLine s).irqLine = false := rfl
@[simp] theorem releaseLine_ppuCycle (s : State) : (releaseLine s).ppuCycle = s.ppuCycle := rfl
@[simp] theorem releaseLine_mulA (s : State) : (releaseLine s).mulA = s.mulA := rfl
@[simp] theorem releaseLine_mulB (s : State) : (releaseLine s).mulB = s.mulB := rfl
@[simp] theorem releaseLine_product (s : State) : (releaseLine s).product = s.product := rfl
@[simp] theorem releaseLine_sq1 (s : State) : (releaseLine s).sq1 = s.sq1 := rfl
@[simp] theorem releaseLine_sq2 (s : State) : (releaseLine s).sq2 = s.sq2 := rfl
@[simp] theorem releaseLine_dmcCtrl (s : State) : (releaseLine s).dmcCtrl = s.dmcCtrl := rfl
@[simp] theorem releaseLine_dmcDac (s : State) : (releaseLine s).dmcDac = s.dmcDac := rfl
@[simp] theorem releaseLine_dmcEnabled (s : State) : (releaseLine s).dmcEnabled = s.dmcEnabled := rfl
@[simp] theorem releaseLine_apuParity (s : State) : (releaseLine s).apuParity = s.apuParity := rfl
@[simp] theorem releaseLine_frameCtr (s : State) : (releaseLine s).frameCtr = s.frameCtr := rfl
@[simp] theorem releaseLine_quarterCount (s : State) : (releaseLine s).quarterCount = s.quarterCount := rfl
@[simp] theorem releaseLine_sq1Buf (s : State) : (releaseLine s).sq1Buf = s.sq1Buf := rfl
@[simp] theorem releaseLine_sq2Buf (s : State) : (releaseLine s).sq2Buf = s.sq2Buf := rfl
@[simp] theorem releaseLine_dmcBuf (s : State) : (releaseLine s).dmcBuf = s.dmcBuf := rfl
@[simp] theorem releaseLine_sampleCount (s : State) : (releaseLine s).sampleCount = s.sampleCount := rfl
@[simp] theorem releaseLine_mixPrev (s : State) : (releaseLine s).mixPrev = s.mixPrev := rfl
@[simp] theorem releaseLine_chanMask (s : State) : (releaseLine s).chanMask = s.chanMask := rfl
@[simp] theorem releaseLine_prgRam (s : State) : (releaseLine s).prgRam = s.prgRam := rfl
@[simp] theorem releaseLine_chrMem (s : State) : (releaseLine s).chrMem = s.chrMem := rfl
@[simp] theorem releaseLine_calls (s : State) : (releaseLine s).calls = s.calls := rfl
@[simp] theorem releaseLine_reply (s : State) : (releaseLine s).reply = s.reply := rfl
@[simp] theorem releaseLine_extCalls (s : State) : (releaseLine s).extCalls = s.extCalls ++ [.releaseInterrupt] := rfl
@[simp] theorem releaseLine_drawCtr (s : State) : (releaseLine s).drawCtr = s.drawCtr := rfl

/-! ### setPending -/

@[simp] theorem setPending_reg (s : State) : (setPending s).reg = s.reg := rfl
@[simp] theorem setPending_prgMode (s : State) : (setPending s).prgMode = s.prgMode := rfl
@[simp] theorem setPending_chrMode (s : State) : (setPending s).chrMode = s.chrMode := rfl
@[simp] theorem setPending_chrHigh (s : State) : (setPending s).chrHigh = s.chrHigh := rfl
@[simp] theorem setPending_chrHi (s : State) : (setPending s).chrHi = s.chrHi := rfl
@[simp] theorem setPending_prgWin (s : State) : (setPending s).prgWin = s.prgWin := rfl
@[simp] theorem setPending_lowRamPage (s : State) : (setPending s).lowRamPage = s.lowRamPage := rfl
@[simp] theorem setPending_chrSlot (s : State) : (setPending s).chrSlot = s.chrSlot := rfl
@[simp] theorem setPending_protA (s : State) : (setPending s).protA = s.protA := rfl
@[simp] theorem setPending_protB (s : State) : (setPending s).protB = s.protB := rfl
@[simp] theorem setPending_irqStatus (s : State) : (setPending s).irqStatus = s.irqStatus ||| 0x80#8 := rfl
@[simp] theorem setPending_irqEnable (s : State) : (setPending s).irqEnable = s.irqEnable := rfl
@[simp] theorem setPending_irqTarget (s : State) : (setPending s).irqTarget = s.irqTarget := rfl
@[simp] theorem setPending_irqLine (s : State) : (setPending s).irqLine = s.irqLine := rfl
@[simp] theorem setPending_ppuCycle (s : State) : (setPending s).ppuCycle = s.ppuCycle := rfl
@[simp] theorem setPending_mulA (s : State) : (setPending s).mulA = s.mulA := rfl
@[simp] theorem setPending_mulB (s : State) : (setPending s).mulB = s.mulB := rfl
@[simp] theorem setPending_product (s : State) : (setPending s).product = s.product := rfl
@[simp] theorem setPending_sq1 (s : State) : (setPending s).sq1 = s.sq1 := rfl
@[simp] theorem setPending_sq2 (s : State) : (setPending s).sq2 = s.sq2 := rfl
@[simp] theorem setPending_dmcCtrl (s : State) : (setPending s).dmcCtrl = s.dmcCtrl := rfl
@[simp] theorem setPending_dmcDac (s : State) : (setPending s).dmcDac = s.dmcDac := rfl
@[simp] theorem setPending_dmcEnabled (s : State) : (setPending s).dmcEnabled = s.dmcEnabled := rfl
@[simp] theorem setPending_apuParity (s : State) : (setPending s).apuParity = s.apuParity := rfl
@[simp] theorem setPending_frameCtr (s : State) : (setPending s).frameCtr = s.frameCtr := rfl
@[simp] theorem setPending_quarterCount (s : State) : (setPending s).quarterCount = s.quarterCount := rfl
@[simp] theorem setPending_sq1Buf (s : State) : (setPending s).sq1Buf = s.sq1Buf := rfl
@[simp] theorem setPending_sq2Buf (s : State) : (setPending s).sq2Buf = s.sq2Buf := rfl
@[simp] theorem setPending_dmcBuf (s : State) : (setPending s).dmcBuf = s.dmcBuf := rfl
@[simp] theorem setPending_sampleCount (s : State) : (setPending s).sampleCount = s.sampleCount := rfl
@[simp] theorem setPending_mixPrev (s : State) : (setPending s).mixPrev = s.mixPrev := rfl
@[simp] theorem setPending_chanMask (s : State) : (setPending s).chanMask = s.chanMask := rfl
@[simp] theorem setPending_prgRam (s : State) : (setPending s).prgRam = s.prgRam := rfl
@[simp] theorem setPending_chrMem (s : State) : (setPending s).chrMem = s.chrMem := rfl
@[simp] theorem setPending_calls (s : State) : (setPending s).calls = s.calls := rfl
@[simp] theorem setPending_reply (s : State) : (setPending s).reply = s.reply := rfl
@[simp] theorem setPending_extCalls (s : State) : (setPending s).extCalls = s.extCalls := rfl
@[simp] theorem setPending_drawCtr (s : State) : (setPending s).drawCtr = s.drawCtr := rfl

/-! ### clearPending -/

@[simp] theorem clearPending_reg (s : State) : (clearPending s).reg = s.reg := rfl
@[simp] theorem clearPending_prgMode (s : State) : (clearPending s).prgMode = s.prgMode := rfl
@[simp] theorem clearPending_chrMode (s : State) : (clearPending s).chrMode = s.chrMode := rfl
@[simp] theorem clearPending_chrHigh (s : State) : (clearPending s).chrHigh = s.chrHigh := rfl
@[simp] theorem clearPending_chrHi (s : State) : (clearPending s).chrHi = s.chrHi := rfl
@[simp] theorem clearPending_prgWin (s : State) : (clearPending s).prgWin = s.prgWin := rfl
@[simp] theorem clearPending_lowRamPage (s : State) : (clearPending s).lowRamPage = s.lowRamPage := rfl
@[simp] theorem clearPending_chrSlot (s : State) : (clearPending s).chrSlot = s.chrSlot := rfl
@[simp] theorem clearPending_protA (s : State) : (clearPending s).protA = s.protA := rfl
@[simp] theorem clearPending_protB (s : State) : (clearPending s).protB = s.protB := rfl
@[simp] theorem clearPending_irqStatus (s : State) : (clearPending s).irqStatus = s.irqStatus &&& 0x7F#8 := rfl
@[simp] theorem clearPending_irqEnable (s : State) : (clearPending s).irqEnable = s.irqEnable := rfl
@[simp] theorem clearPending_irqTarget (s : State) : (clearPending s).irqTarget = s.irqTarget := rfl
@[simp] theorem clearPending_irqLine (s : State) : (clearPending s).irqLine = s.irqLine := rfl
@[simp] theorem clearPending_ppuCycle (s : State) : (clearPending s).ppuCycle = s.ppuCycle := rfl
@[simp] theorem clearPending_mulA (s : State) : (clearPending s).mulA = s.mulA := rfl
@[simp] theorem clearPending_mulB (s : State) : (clearPending s).mulB = s.mulB := rfl
@[simp] theorem clearPending_product (s : State) : (clearPending s).product = s.product := rfl
@[simp] theorem clearPending_sq1 (s : State) : (clearPending s).sq1 = s.sq1 := rfl
@[simp] theorem clearPending_sq2 (s : State) : (clearPending s).sq2 = s.sq2 := rfl
@[simp] theorem clearPending_dmcCtrl (s : State) : (clearPending s).dmcCtrl = s.dmcCtrl := rfl
@[simp] theorem clearPending_dmcDac (s : State) : (clearPending s).dmcDac = s.dmcDac := rfl
@[simp] theorem clearPending_dmcEnabled (s : State) : (clearPending s).dmcEnabled = s.dmcEnabled := rfl
@[simp] theorem clearPending_apuParity (s : State) : (clearPending s).apuParity = s.apuParity := rfl
@[simp] theorem clearPending_frameCtr (s : State) : (clearPending s).frameCtr = s.frameCtr := rfl
@[simp] theorem clearPending_quarterCount (s : State) : (clearPending s).quarterCount = s.quarterCount := rfl
@[simp] theorem clearPending_sq1Buf (s : State) : (clearPending s).sq1Buf = s.sq1Buf := rfl
@[simp] theorem clearPending_sq2Buf (s : State) : (clearPending s).sq2Buf = s.sq2Buf := rfl
@[simp] theorem clearPending_dmcBuf (s : State) : (clearPending s).dmcBuf = s.dmcBuf := rfl
@[simp] theorem clearPending_sampleCount (s : State) : (clearPending s).sampleCount = s.sampleCount := rfl
@[simp] theorem clearPending_mixPrev (s : State) : (clearPending s).mixPrev = s.mixPrev := rfl
@[simp] theorem clearPending_chanMask (s : State) : (clearPending s).chanMask = s.chanMask := rfl
@[simp] theorem clearPending_prgRam (s : State) : (clearPending s).prgRam = s.prgRam := rfl
@[simp] theorem clearPending_chrMem (s : State) : (clearPending s).chrMem = s.chrMem := rfl
@[simp] theorem clearPending_calls (s : State) : (clearPending s).calls = s.calls := rfl
@[simp] theorem clearPending_reply (s : State) : (clearPending s).reply = s.reply := rfl
@[simp] theorem clearPending_extCalls (s : State) : (clearPending s).extCalls = s.extCalls := rfl
@[simp] theorem clearPending_drawCtr (s : State) : (clearPending s).drawCtr = s.drawCtr := rfl

/-! ### setNotInFrame -/

@[simp] theorem setNotInFrame_reg (s : State) : (setNotInFrame s).reg = s.reg := rfl
@[simp] theorem setNotInFrame_prgMode (s : State) : (setNotInFrame s).prgMode = s.prgMode := rfl
@[simp] theorem setNotInFrame_chrMode (s : State) : (setNotInFrame s).chrMode = s.chrMode := rfl
@[simp] theorem setNotInFrame_chrHigh (s : State) : (setNotInFrame s).chrHigh = s.chrHigh := rfl
@[simp] theorem setNotInFrame_chrHi (s : State) : (setNotInFrame s).chrHi = s.chrHi := rfl
@[simp] theorem setNotInFrame_prgWin (s : State) : (setNotInFrame s).prgWin = s.prgWin := rfl
@[simp] theorem setNotInFrame_lowRamPage (s : State) : (setNotInFrame s).lowRamPage = s.lowRamPage := rfl
@[simp] theorem setNotInFrame_chrSlot (s : State) : (setNotInFrame s).chrSlot = s.chrSlot := rfl
@[simp] theorem setNotInFrame_protA (s : State) : (setNotInFrame s).protA = s.protA := rfl
@[simp] theorem setNotInFrame_protB (s : State) : (setNotInFrame s).protB = s.protB := rfl
@[simp] theorem setNotInFrame_irqStatus (s : State) : (setNotInFrame s).irqStatus = s.irqStatus ||| 0x40#8 := rfl
@[simp] theorem setNotInFrame_irqEnable (s : State) : (setNotInFrame s).irqEnable = s.irqEnable := rfl
@[simp] theorem setNotInFrame_irqTarget (s : State) : (setNotInFrame s).irqTarget = s.irqTarget := rfl
@[simp] theorem setNotInFrame_irqLine (s : State) : (setNotInFrame s).irqLine = s.irqLine := rfl
@[simp] theorem setNotInFrame_ppuCycle (s : State) : (setNotInFrame s).ppuCycle = s.ppuCycle := rfl
@[simp] theorem setNotInFrame_mulA (s : State) : (setNotInFrame s).mulA = s.mulA := rfl
@[simp] theorem setNotInFrame_mulB (s : State) : (setNotInFrame s).mulB = s.mulB := rfl
@[simp] theorem setNotInFrame_product (s : State) : (setNotInFrame s).product = s.product := rfl
@[simp] theorem setNotInFrame_sq1 (s : State) : (setNotInFrame s).sq1 = s.sq1 := rfl
@[simp] theorem setNotInFrame_sq2 (s : State) : (setNotInFrame s).sq2 = s.sq2 := rfl
@[simp] theorem setNotInFrame_dmcCtrl (s : State) : (setNotInFrame s).dmcCtrl = s.dmcCtrl := rfl
@[simp] theorem setNotInFrame_dmcDac (s : State) : (setNotInFrame s).dmcDac = s.dmcDac := rfl
@[simp] theorem setNotInFrame_dmcEnabled (s : State) : (setNotInFrame s).dmcEnabled = s.dmcEnabled := rfl
@[simp] theorem setNotInFrame_apuParity (s : State) : (setNotInFrame s).apuParity = s.apuParity := rfl
@[simp] theorem setNotInFrame_frameCtr (s : State) : (setNotInFrame s).frameCtr = s.frameCtr := rfl
@[simp] theorem setNotInFrame_quarterCount (s : State) : (setNotInFrame s).quarterCount = s.quarterCount := rfl
@[simp] theorem setNotInFrame_sq1Buf (s : State) : (setNotInFrame s).sq1Buf = s.sq1Buf := rfl
@[simp] theorem setNotInFrame_sq2Buf (s : State) : (setNotInFrame s).sq2Buf = s.sq2Buf := rfl
@[simp] theorem setNotInFrame_dmcBuf (s : State) : (setNotInFrame s).dmcBuf = s.dmcBuf := rfl
@[simp] theorem setNotInFrame_sampleCount (s : State) : (setNotInFrame s).sampleCount = s.sampleCount := rfl
@[simp] theorem setNotInFrame_mixPrev (s : State) : (setNotInFrame s).mixPrev = s.mixPrev := rfl
@[simp] theorem setNotInFrame_chanMask (s : State) : (setNotInFrame s).chanMask = s.chanMask := rfl
@[simp] theorem setNotInFrame_prgRam (s : State) : (setNotInFrame s).prgRam = s.prgRam := rfl
@[simp] theorem setNotInFrame_chrMem (s : State) : (setNotInFrame s).chrMem = s.chrMem := rfl
@[simp] theorem setNotInFrame_calls (s : State) : (setNotInFrame s).calls = s.calls := rfl
@[simp] theorem setNotInFrame_reply (s : State) : (setNotInFrame s).reply = s.reply := rfl
@[simp] theorem setNotInFrame_extCalls (s : State) : (setNotInFrame s).extCalls = s.extCalls := rfl
@[simp] theorem setNotInFrame_drawCtr (s : State) : (setNotInFrame s).drawCtr = s.drawCtr := rfl

/-! ### clearNotInFrame -/

@[simp] theorem clearNotInFrame_reg (s : State) : (clearNotInFrame s).reg = s.reg := rfl
@[simp] theorem clearNotInFrame_prgMode (s : State) : (clearNotInFrame s).prgMode = s.prgMode := rfl
@[simp] theorem clearNotInFrame_chrMode (s : State) : (clearNotInFrame s).chrMode = s.chrMode := rfl
@[simp] theorem clearNotInFrame_chrHigh (s : State) : (clearNotInFrame s).chrHigh = s.chrHigh := rfl
@[simp] theorem clearNotInFrame_chrHi (s : State) : (clearNotInFrame s).chrHi = s.chrHi := rfl
@[simp] theorem clearNotInFrame_prgWin (s : State) : (clearNotInFrame s).prgWin = s.prgWin := rfl
@[simp] theorem clearNotInFrame_lowRamPage (s : State) : (clearNotInFrame s).lowRamPage = s.lowRamPage := rfl
@[simp] theorem clearNotInFrame_chrSlot (s : State) : (clearNotInFrame s).chrSlot = s.chrSlot := rfl
@[simp] theorem clearNotInFrame_protA (s : State) : (clearNotInFrame s).protA = s.protA := rfl
@[simp] theorem clearNotInFrame_protB (s : State) : (clearNotInFrame s).protB = s.protB := rfl
@[simp] theorem clearNotInFrame_irqStatus (s : State) : (clearNotInFrame s).irqStatus = s.irqStatus &&& 0xBF#8 := rfl
@[simp] theorem clearNotInFrame_irqEnable (s : State) : (clearNotInFrame s).irqEnable = s.irqEnable := rfl
@[simp] theorem clearNotInFrame_irqTarget (s : State) : (clearNotInFrame s).irqTarget = s.irqTarget := rfl
@[simp] theorem clearNotInFrame_irqLine (s : State) : (clearNotInFrame s).irqLine = s.irqLine := rfl
@[simp] theorem clearNotInFrame_ppuCycle (s : State) : (clearNotInFrame s).ppuCycle = s.ppuCycle := rfl
@[simp] theorem clearNotInFrame_mulA (s : State) : (clearNotInFrame s).mulA = s.mulA := rfl
@[simp] theorem clearNotInFrame_mulB (s : State) : (clearNotInFrame s).mulB = s.mulB := rfl
@[simp] theorem clearNotInFrame_product (s : State) : (clearNotInFrame s).product = s.product := rfl
@[simp] theorem clearNotInFrame_sq1 (s : State) : (clearNotInFrame s).sq1 = s.sq1 := rfl
@[simp] theorem clearNotInFrame_sq2 (s : State) : (clearNotInFrame s).sq2 = s.sq2 := rfl
@[simp] theorem clearNotInFrame_dmcCtrl (s : State) : (clearNotInFrame s).dmcCtrl = s.dmcCtrl := rfl
@[simp] theorem clearNotInFrame_dmcDac (s : State) : (clearNotInFrame s).dmcDac = s.dmcDac := rfl
@[simp] theorem clearNotInFrame_dmcEnabled (s : State) : (clearNotInFrame s).dmcEnabled = s.dmcEnabled := rfl
@[simp] theorem clearNotInFrame_apuParity (s : State) : (clearNotInFrame s).apuParity = s.apuParity := rfl
@[simp] theorem clearNotInFrame_frameCtr (s : State) : (clearNotInFrame s).frameCtr = s.frameCtr := rfl
@[simp] theorem clearNotInFrame_quarterCount (s : State) : (clearNotInFrame s).quarterCount = s.quarterCount := rfl
@[simp] theorem clearNotInFrame_sq1Buf (s : State) : (clearNotInFrame s).sq1Buf = s.sq1Buf := rfl
@[simp] theorem clearNotInFrame_sq2Buf (s : State) : (clearNotInFrame s).sq2Buf = s.sq2Buf := rfl
@[simp] theorem clearNotInFrame_dmcBuf (s : State) : (clearNotInFrame s).dmcBuf = s.dmcBuf := rfl
@[simp] theorem clearNotInFrame_sampleCount (s : State) : (clearNotInFrame s).sampleCount = s.sampleCount := rfl
@[simp] theorem clearNotInFrame_mixPrev (s : State) : (clearNotInFrame s).mixPrev = s.mixPrev := rfl
@[simp] theorem clearNotInFrame_chanMask (s : State) : (clearNotInFrame s).chanMask = s.chanMask := rfl
@[simp] theorem clearNotInFrame_prgRam (s : State) : (clearNotInFrame s).prgRam = s.prgRam := rfl
@[simp] theorem clearNotInFrame_chrMem (s : State) : (clearNotInFrame s).chrMem = s.chrMem := rfl
@[simp] theorem clearNotInFrame_calls (s : State) : (clearNotInFrame s).calls = s.calls := rfl
@[simp] theorem clearNotInFrame_reply (s : State) : (clearNotInFrame s).reply = s.reply := rfl
@[simp] theorem clearNotInFrame_extCalls (s : State) : (clearNotInFrame s).extCalls = s.extCalls := rfl
@[simp] theorem clearNotInFrame_drawCtr (s : State) : (clearNotInFrame s).drawCtr = s.drawCtr := rfl

/-! ### rederivePrg -/

@[simp] theorem rederivePrg_reg (p : Params) (s : State) : (rederivePrg p s).reg = s.reg := rfl
@[simp] theorem rederivePrg_prgMode (p : Params) (s : State) : (rederivePrg p s).prgMode = s.prgMode := rfl
@[simp] theorem rederivePrg_chrMode (p : Params) (s : State) : (rederivePrg p s).chrMode = s.chrMode := rfl
@[simp] theorem rederivePrg_chrHigh (p : Params) (s : State) : (rederivePrg p s).chrHigh = s.chrHigh := rfl
@[simp] theorem rederivePrg_chrHi (p : Params) (s : State) : (rederivePrg p s).chrHi = s.chrHi := rfl
@[simp] theorem rederivePrg_prgWin (p : Params) (s : State) : (rederivePrg p s).prgWin = derivedPrg p s := rfl
@[simp] theorem rederivePrg_lowRamPage (p : Params) (s : State) : (rederivePrg p s).lowRamPage = s.lowRamPage := rfl
@[simp] theorem rederivePrg_chrSlot (p : Params) (s : State) : (rederivePrg p s).chrSlot = s.chrSlot := rfl
@[simp] theorem rederivePrg_protA (p : Params) (s : State) : (rederivePrg p s).protA = s.protA := rfl
@[simp] theorem rederivePrg_protB (p : Params) (s : State) : (rederivePrg p s).protB = s.protB := rfl
@[simp] theorem rederivePrg_irqStatus (p : Params) (s : State) : (rederivePrg p s).irqStatus = s.irqStatus := rfl
@[simp] theorem rederivePrg_irqEnable (p : Params) (s : State) : (rederivePrg p s).irqEnable = s.irqEnable := rfl
@[simp] theorem rederivePrg_irqTarget (p : Params) (s : State) : (rederivePrg p s).irqTarget = s.irqTarget := rfl
@[simp] theorem rederivePrg_irqLine (p : Params) (s : State) : (rederivePrg p s).irqLine = s.irqLine := rfl
@[simp] theorem rederivePrg_ppuCycle (p : Params) (s : State) : (rederivePrg p s).ppuCycle = s.ppuCycle := rfl
@[simp] theorem rederivePrg_mulA (p : Params) (s : State) : (rederivePrg p s).mulA = s.mulA := rfl
@[simp] theorem rederivePrg_mulB (p : Params) (s : State) : (rederivePrg p s).mulB = s.mulB := rfl
@[simp] theorem rederivePrg_product (p : Params) (s : State) : (rederivePrg p s).product = s.product := rfl
@[simp] theorem rederivePrg_sq1 (p : Params) (s : State) : (rederivePrg p s).sq1 = s.sq1 := rfl
@[simp] theorem rederivePrg_sq2 (p : Params) (s : State) : (rederivePrg p s).sq2 = s.sq2 := rfl
@[simp] theorem rederivePrg_dmcCtrl (p : Params) (s : State) : (rederivePrg p s).dmcCtrl = s.dmcCtrl := rfl
@[simp] theorem rederivePrg_dmcDac (p : Params) (s : State) : (rederivePrg p s).dmcDac = s.dmcDac := rfl
@[simp] theorem rederivePrg_dmcEnabled (p : Params) (s : State) : (rederivePrg p s).dmcEnabled = s.dmcEnabled := rfl
@[simp] theorem rederivePrg_apuParity (p : Params) (s : State) : (rederivePrg p s).apuParity = s.apuParity := rfl
@[simp] theorem rederivePrg_frameCtr (p : Params) (s : State) : (rederivePrg p s).frameCtr = s.frameCtr := rfl
@[simp] theorem rederivePrg_quarterCount (p : Params) (s : State) : (rederivePrg p s).quarterCount = s.quarterCount := rfl
@[simp] theorem rederivePrg_sq1Buf (p : Params) (s : State) : (rederivePrg p s).sq1Buf = s.sq1Buf := rfl
@[simp] theorem rederivePrg_sq2Buf (p : Params) (s : State) : (rederivePrg p s).sq2Buf = s.sq2Buf := rfl
@[simp] theorem rederivePrg_dmcBuf (p : Params) (s : State) : (rederivePrg p s).dmcBuf = s.dmcBuf := rfl
@[simp] theorem rederivePrg_sampleCount (p : Params) (s : State) : (rederivePrg p s).sampleCount = s.sampleCount := rfl
@[simp] theorem rederivePrg_mixPrev (p : Params) (s : State) : (rederivePrg p s).mixPrev = s.mixPrev := rfl
@[simp] theorem rederivePrg_chanMask (p : Params) (s : State) : (rederivePrg p s).chanMask = s.chanMask := rfl
@[simp] theorem rederivePrg_prgRam (p : Params) (s : State) : (rederivePrg p s).prgRam = s.prgRam := rfl
@[simp] theorem rederivePrg_chrMem (p : Params) (s : State) : (rederivePrg p s).chrMem = s.chrMem := rfl
@[simp] theorem rederivePrg_calls (p : Params) (s : State) : (rederivePrg p s).calls = s.calls := rfl
@[simp] theorem rederivePrg_reply (p : Params) (s : State) : (rederivePrg p s).reply = s.reply := rfl
@[simp] theorem rederivePrg_extCalls (p : Params) (s : State) : (rederivePrg p s).extCalls = s.extCalls := rfl
@[simp] theorem rederivePrg_drawCtr (p : Params) (s : State) : (rederivePrg p s).drawCtr = s.drawCtr := rfl

/-! ### rederiveChr -/

@[simp] theorem rederiveChr_reg (s : State) : (rederiveChr s).reg = s.reg := rfl
@[simp] theorem rederiveChr_prgMode (s : State) : (rederiveChr s).prgMode = s.prgMode := rfl
@[simp] theorem rederiveChr_chrMode (s : State) : (rederiveChr s).chrMode = s.chrMode := rfl
@[simp] theorem rederiveChr_chrHigh (s : State) : (rederiveChr s).chrHigh = s.chrHigh := rfl
@[simp] theorem rederiveChr_chrHi (s : State) : (rederiveChr s).chrHi = s.chrHi := rfl
@[simp] theorem rederiveChr_prgWin (s : State) : (rederiveChr s).prgWin = s.prgWin := rfl
@[simp] theorem rederiveChr_lowRamPage (s : State) : (rederiveChr s).lowRamPage = s.lowRamPage := rfl
@[simp] theorem rederiveChr_chrSlot (s : State) : (rederiveChr s).chrSlot = derivedChr s := rfl
@[simp] theorem rederiveChr_protA (s : State) : (rederiveChr s).protA = s.protA := rfl
@[simp] theorem rederiveChr_protB (s : State) : (rederiveChr s).protB = s.protB := rfl
@[simp] theorem rederiveChr_irqStatus (s : State) : (rederiveChr s).irqStatus = s.irqStatus := rfl
@[simp] theorem rederiveChr_irqEnable (s : State) : (rederiveChr s).irqEnable = s.irqEnable := rfl
@[simp] theorem rederiveChr_irqTarget (s : State) : (rederiveChr s).irqTarget = s.irqTarget := rfl
@[simp] theorem rederiveChr_irqLine (s : State) : (rederiveChr s).irqLine = s.irqLine := rfl
@[simp] theorem rederiveChr_ppuCycle (s : State) : (rederiveChr s).ppuCycle = s.ppuCycle := rfl
@[simp] theorem rederiveChr_mulA (s : State) : (rederiveChr s).mulA = s.mulA := rfl
@[simp] theorem rederiveChr_mulB (s : State) : (rederiveChr s).mulB = s.mulB := rfl
@[simp] theorem rederiveChr_product (s : State) : (rederiveChr s).product = s.product := rfl
@[simp] theorem rederiveChr_sq1 (s : State) : (rederiveChr s).sq1 = s.sq1 := rfl
@[simp] theorem rederiveChr_sq2 (s : State) : (rederiveChr s).sq2 = s.sq2 := rfl
@[simp] theorem rederiveChr_dmcCtrl (s : State) : (rederiveChr s).dmcCtrl = s.dmcCtrl := rfl
@[simp] theorem rederiveChr_dmcDac (s : State) : (rederiveChr s).dmcDac = s.dmcDac := rfl
@[simp] theorem rederiveChr_dmcEnabled (s : State) : (rederiveChr s).dmcEnabled = s.dmcEnabled := rfl
@[simp] theorem rederiveChr_apuParity (s : State) : (rederiveChr s).apuParity = s.apuParity := rfl
@[simp] theorem rederiveChr_frameCtr (s : State) : (rederiveChr s).frameCtr = s.frameCtr := rfl
@[simp] theorem rederiveChr_quarterCount (s : State) : (rederiveChr s).quarterCount = s.quarterCount := rfl
@[simp] theorem rederiveChr_sq1Buf (s : State) : (rederiveChr s).sq1Buf = s.sq1Buf := rfl
@[simp] theorem rederiveChr_sq2Buf (s : State) : (rederiveChr s).sq2Buf = s.sq2Buf := rfl
@[simp] theorem rederiveChr_dmcBuf (s : State) : (rederiveChr s).dmcBuf = s.dmcBuf := rfl
@[simp] theorem rederiveChr_sampleCount (s : State) : (rederiveChr s).sampleCount = s.sampleCount := rfl
@[simp] theorem rederiveChr_mixPrev (s : State) : (rederiveChr s).mixPrev = s.mixPrev := rfl
@[simp] theorem rederiveChr_chanMask (s : State) : (rederiveChr s).chanMask = s.chanMask := rfl
@[simp] theorem rederiveChr_prgRam (s : State) : (rederiveChr s).prgRam = s.prgRam := rfl
@[simp] theorem rederiveChr_chrMem (s : State) : (rederiveChr s).chrMem = s.chrMem := rfl
@[simp] theorem rederiveChr_calls (s : State) : (rederiveChr s).calls = s.calls := rfl
@[simp] theorem rederiveChr_reply (s : State) : (rederiveChr s).reply = s.reply := rfl
@[simp] theorem rederiveChr_extCalls (s : State) : (rederiveChr s).extCalls = s.extCalls := rfl
@[simp] theorem rederiveChr_drawCtr (s : State) : (rederiveChr s).drawCtr = s.drawCtr := rfl

/-! ### drain -/

@[simp] theorem drain_reg (s : State) : (drain s).reg = s.reg := rfl
@[simp] theorem drain_prgMode (s : State) : (drain s).prgMode = s.prgMode := rfl
@[simp] theorem drain_chrMode (s : State) : (drain s).chrMode = s.chrMode := rfl
@[simp] theorem drain_chrHigh (s : State) : (drain s).chrHigh = s.chrHigh := rfl
@[simp] theorem drain_chrHi (s : State) : (drain s).chrHi = s.chrHi := rfl
@[simp] theorem drain_prgWin (s : State) : (drain s).prgWin = s.prgWin := rfl
@[simp] theorem drain_lowRamPage (s : State) : (drain s).lowRamPage = s.lowRamPage := rfl
@[simp] theorem drain_chrSlot (s : State) : (drain s).chrSlot = s.chrSlot := rfl
@[simp] theorem drain_protA (s : State) : (drain s).protA = s.protA := rfl
@[simp] theorem drain_protB (s : State) : (drain s).protB = s.protB := rfl
@[simp] theorem drain_irqStatus (s : State) : (drain s).irqStatus = s.irqStatus := rfl
@[simp] theorem drain_irqEnable (s : State) : (drain s).irqEnable = s.irqEnable := rfl
@[simp] theorem drain_irqTarget (s : State) : (drain s).irqTarget = s.irqTarget := rfl
@[simp] theorem drain_irqLine (s : State) : (drain s).irqLine = s.irqLine := rfl
@[simp] theorem drain_ppuCycle (s : State) : (drain s).ppuCycle = s.ppuCycle := rfl
@[simp] theorem drain_mulA (s : State) : (drain s).mulA = s.mulA := rfl
@[simp] theorem drain_mulB (s : State) : (drain s).mulB = s.mulB := rfl
@[simp] theorem drain_product (s : State) : (drain s).product = s.product := rfl
@[simp] theorem drain_sq1 (s : State) : (drain s).sq1 = s.sq1 := rfl
@[simp] theorem drain_sq2 (s : State) : (drain s).sq2 = s.sq2 := rfl
@[simp] theorem drain_dmcCtrl (s : State) : (drain s).dmcCtrl = s.dmcCtrl := rfl
@[simp] theorem drain_dmcDac (s : State) : (drain s).dmcDac = s.dmcDac := rfl
@[simp] theorem drain_dmcEnabled (s : State) : (drain s).dmcEnabled = s.dmcEnabled := rfl
@[simp] theorem drain_apuParity (s : State) : (drain s).apuParity = s.apuParity := rfl
@[simp] theorem drain_frameCtr (s : State) : (drain s).frameCtr = s.frameCtr := rfl
@[simp] theorem drain_quarterCount (s : State) : (drain s).quarterCount = s.quarterCount := rfl
@[simp] theorem drain_sq1Buf (s : State) : (drain s).sq1Buf = [] := rfl
@[simp] theorem drain_sq2Buf (s : State) : (drain s).sq2Buf = [] := rfl
@[simp] theorem drain_dmcBuf (s : State) : (drain s).dmcBuf = [] := rfl
@[simp] theorem drain_sampleCount (s : State) : (drain s).sampleCount = 0 := rfl
@[simp] theorem drain_mixPrev (s : State) : (drain s).mixPrev = s.mixPrev := rfl
@[simp] theorem drain_chanMask (s : State) : (drain s).chanMask = s.chanMask := rfl
@[simp] theorem drain_prgRam (s : State) : (drain s).prgRam = s.prgRam := rfl
@[simp] theorem drain_chrMem (s : State) : (drain s).chrMem = s.chrMem := rfl
@[simp] theorem drain_calls (s : State) : (drain s).calls = s.calls := rfl
@[simp] theorem drain_reply (s : State) : (drain s).reply = s.reply := rfl
@[simp] theorem drain_extCalls (s : State) : (drain s).extCalls = s.extCalls := rfl
@[simp] theorem drain_drawCtr (s : State) : (drain s).drawCtr = s.drawCtr := rfl

/-! ### updSquare -/

@[simp] theorem updSquare_reg (c : Square) (f : SquareChan → SquareChan) (s : State) :
    (updSquare c f s).reg = s.reg := by cases c <;> rfl
@[simp] theorem updSquare_prgMode (c : Square) (f : SquareChan → SquareChan) (s : State) :
    (updSquare c f s).prgMode = s.prgMode := by cases c <;> rfl
@[simp] theorem updSquare_chrMode (c : Square) (f : SquareChan → SquareChan) (s : State) :
    (updSquare c f s).chrMode = s.chrMode := by cases c <;> rfl
@[simp] theorem updSquare_chrHigh (c : Square) (f : SquareChan → SquareChan) (s : State) :
    (updSquare c f s).chrHigh = s.chrHigh := by cases c <;> rfl
@[simp] theorem updSquare_chrHi (c : Square) (f : SquareChan → SquareChan) (s : State) :
    (updSquare c f s).chrHi = s.chrHi := by cases c <;> rfl
@[simp] theorem updSquare_prgWin (c : Square) (f : SquareChan → SquareChan) (s : State) :
    (updSquare c f s).prgWin = s.prgWin := by cases c <;> rfl
@[simp] theorem updSquare_lowRamPage (c : Square) (f : SquareChan → SquareChan) (s : State) :
    (updSquare c f s).lowRamPage = s.lowRamPage := by cases c <;> rfl
@[simp] theorem updSquare_chrSlot (c : Square) (f : SquareChan → SquareChan) (s : State) :
    (updSquare c f s).chrSlot = s.chrSlot := by cases c <;> rfl
@[simp] theorem updSquare_protA (c : Square) (f : SquareChan → SquareChan) (s : State) :
    (updSquare c f s).protA = s.protA := by cases c <;> rfl
@[simp] theorem updSquare_protB (c : Square) (f : SquareChan → SquareChan) (s : State) :
    (updSquare c f s).protB = s.protB := by cases c <;> rfl
@[simp] theorem updSquare_irqStatus (c : Square) (f : SquareChan → SquareChan) (s : State) :
    (updSquare c f s).irqStatus = s.irqStatus := by cases c <;> rfl
@[simp] theorem updSquare_irqEnable (c : Square) (f : SquareChan → SquareChan) (s : State) :
    (updSquare c f s).irqEnable = s.irqEnable := by cases c <;> rfl
@[simp] theorem updSquare_irqTarget (c : Square) (f : SquareChan → SquareChan) (s : State) :
    (updSquare c f s).irqTarget = s.irqTarget := by cases c <;> rfl
@[simp] theorem updSquare_irqLine (c : Square) (f : SquareChan → SquareChan) (s : State) :
    (updSquare c f s).irqLine = s.irqLine := by cases c <;> rfl
@[simp] theorem updSquare_ppuCycle (c : Square) (f : SquareChan → SquareChan) (s : State) :
    (updSquare c f s).ppuCycle = s.ppuCycle := by cases c <;> rfl
@[simp] theorem updSquare_mulA (c : Square) (f : SquareChan → SquareChan) (s : State) :
    (updSquare c f s).mulA = s.mulA := by cases c <;> rfl
@[simp] theorem updSquare_mulB (c : Square) (f : SquareChan → SquareChan) (s : State) :
    (updSquare c f s).mulB = s.mulB := by cases c <;> rfl
@[simp] theorem updSquare_product (c : Square) (f : SquareChan → SquareChan) (s : State) :
    (updSquare c f s).product = s.product := by cases c <;> rfl
@[simp] theorem updSquare_sq1 (c : Square) (f : SquareChan → SquareChan) (s : State) :
    (updSquare c f s).sq1 = if c = .sq1 then f s.sq1 else s.sq1 := by cases c <;> rfl
@[simp] theorem updSquare_sq2 (c : Square) (f : SquareChan → SquareChan) (s : State) :
    (updSquare c f s).sq2 = if c = .sq2 then f s.sq2 else s.sq2 := by cases c <;> rfl
@[simp] theorem updSquare_dmcCtrl (c : Square) (f : SquareChan → SquareChan) (s : State) :
    (updSquare c f s).dmcCtrl = s.dmcCtrl := by cases c <;> rfl
@[simp] theorem updSquare_dmcDac (c : Square) (f : SquareChan → SquareChan) (s : State) :
    (updSquare c f s).dmcDac = s.dmcDac := by cases c <;> rfl
@[simp] theorem updSquare_dmcEnabled (c : Square) (f : SquareChan → SquareChan) (s : State) :
    (updSquare c f s).dmcEnabled = s.dmcEnabled := by cases c <;> rfl
@[simp] theorem updSquare_apuParity (c : Square) (f : SquareChan → SquareChan) (s : State) :
    (updSquare c f s).apuParity = s.apuParity := by cases c <;> rfl
@[simp] theorem updSquare_frameCtr (c : Square) (f : SquareChan → SquareChan) (s : State) :
    (updSquare c f s).frameCtr = s.frameCtr := by cases c <;> rfl
@[simp] theorem updSquare_quarterCount (c : Square) (f : SquareChan → SquareChan) (s : State) :
    (updSquare c f s).quarterCount = s.quarterCount := by cases c <;> rfl
@[simp] theorem updSquare_sq1Buf (c : Square) (f : SquareChan → SquareChan) (s : State) :
    (updSquare c f s).sq1Buf = s.sq1Buf := by cases c <;> rfl
@[simp] theorem updSquare_sq2Buf (c : Square) (f : SquareChan → SquareChan) (s : State) :
    (updSquare c f s).sq2Buf = s.sq2Buf := by cases c <;> rfl
@[simp] theorem updSquare_dmcBuf (c : Square) (f : SquareChan → SquareChan) (s : State) :
    (updSquare c f s).dmcBuf = s.dmcBuf := by cases c <;> rfl
@[simp] theorem updSquare_sampleCount (c : Square) (f : SquareChan → SquareChan) (s : State) :
    (updSquare c f s).sampleCount = s.sampleCount := by cases c <;> rfl
@[simp] theorem updSquare_mixPrev (c : Square) (f : SquareChan → SquareChan) (s : State) :
    (updSquare c f s).mixPrev = s.mixPrev := by cases c <;> rfl
@[simp] theorem updSquare_chanMask (c : Square) (f : SquareChan → SquareChan) (s : State) :
    (updSquare c f s).chanMask = s.chanMask := by cases c <;> rfl
@[simp] theorem updSquare_prgRam (c : Square) (f : SquareChan → SquareChan) (s : State) :
    (updSquare c f s).prgRam = s.prgRam := by cases c <;> rfl
@[simp] theorem updSquare_chrMem (c : Square) (f : SquareChan → SquareChan) (s : State) :
    (updSquare c f s).chrMem = s.chrMem := by cases c <;> rfl
@[simp] theorem updSquare_calls (c : Square) (f : SquareChan → SquareChan) (s : State) :
    (updSquare c f s).calls = s.calls := by cases c <;> rfl
@[simp] theorem updSquare_reply (c : Square) (f : SquareChan → SquareChan) (s : State) :
    (updSquare c f s).reply = s.reply := by cases c <;> rfl
@[simp] theorem updSquare_extCalls (c : Square) (f : SquareChan → SquareChan) (s : State) :
    (updSquare c f s).extCalls = s.extCalls := by cases c <;> rfl
@[simp] theorem updSquare_drawCtr (c : Square) (f : SquareChan → SquareChan) (s : State) :
    (updSquare c f s).drawCtr = s.drawCtr := by cases c <;> rfl

/-! ### The raw registers -/

/-- Reading a raw register after a write: the byte written at its own index, what was there elsewhere. -/
theorem getReg_setReg (i j : Fin 44) (v : Byte) (s : State) :
    getReg (setReg i v s) j = if j = i then v else getReg s j := by
  simp only [getReg, setReg_reg, Vector.getElem_set, Fin.ext_iff, eq_comm]

@[simp] theorem getReg_setReg_same (i : Fin 44) (v : Byte) (s : State) : getReg (setReg i v s) i = v := by
  simp [getReg_setReg]

theorem getReg_setReg_other {i j : Fin 44} (v : Byte) (s : State) (h : j ≠ i) :
    getReg (setReg i v s) j = getReg s j := by
  simp [getReg_setReg, h]

/-- A raw register depends on the register bank alone. -/
theorem getReg_congr {s t : State} (h : t.reg = s.reg) (i : Fin 44) : getReg t i = getReg s i := by
  simp [getReg, h]

/-- `DerivePRG` depends on prgMode and the register bank alone. -/
theorem derivedPrg_congr {s t : State} (p : Params) (hm : t.prgMode = s.prgMode) (hr : t.reg = s.reg) :
    derivedPrg p t = derivedPrg p s := by
  simp only [derivedPrg, hm, getReg_congr hr]

/-- The two Square channels. -/
@[simp] theorem getSquare_sq1 (s : State) : getSquare s .sq1 = s.sq1 := rfl

@[simp] theorem getSquare_sq2 (s : State) : getSquare s .sq2 = s.sq2 := rfl

end Sys2Proof.Machine
end

