-- ==== Sys2Proof/Laws/Ops.lean ====
section
/-!
SUPPORT. For each shared operation, what it can do: when it answers, with what next state.
-/
namespace Sys2Proof.Machine

/-! ### The ends of a call -/

@[simp] theorem complete_eq_next (r : Reply) (s t : State) :
    complete r s = .next t ↔ { s with reply := r } = t := by simp [complete]

@[simp] theorem completeDraw_eq_next (p : Params) (s t : State) :
    completeDraw p s = .next t ↔
      { s with reply := .byte (p.draw s.drawCtr), drawCtr := s.drawCtr + 1 } = t := by simp [completeDraw]

theorem completeRead_eq_next (b : Option Byte) (s t : State) :
    completeRead b s = .next t ↔ ∃ v, b = some v ∧ { s with reply := .byte v } = t := by
  cases b <;> simp [completeRead]

theorem completeWrite_eq_next (w : Option State) (t : State) :
    completeWrite w = .next t ↔ ∃ u, w = some u ∧ { u with reply := .nothing } = t := by
  cases w <;> simp [completeWrite]

/-! ### The memories -/

theorem romRead_eq_some (p : Params) (off : Nat) (v : Byte) :
    romRead p off = some v ↔ off / 8192 < p.prgRomPages ∧ p.prgRom off = v := by
  unfold romRead; split <;> simp_all

theorem ramRead_eq_some (p : Params) (s : State) (off : Nat) (v : Byte) :
    ramRead p s off = some v ↔ off / 8192 < p.prgRamPages ∧ Memory.read p.prgRamPowerOn s.prgRam off = v := by
  unfold ramRead; split <;> simp_all

theorem ramWrite_eq_some (p : Params) (off : Nat) (v : Byte) (s t : State) :
    ramWrite p off v s = some t ↔
      off / 8192 < p.prgRamPages ∧ { s with prgRam := Memory.write p.prgRamPowerOn s.prgRam off v } = t := by
  unfold ramWrite; split <;> simp_all

/-- A low RAM write that lands in a RAM page, or one that the latch stops, answers; it changes PRG-RAM at most. -/
theorem lowRamWrite_eq_some {p : Params} {off : BitVec 13} {v : Byte} {s t : State}
    (h : lowRamWrite p off v s = some t) :
    t = s ∨ (lowRamOffset s off / 8192 < p.prgRamPages ∧
      t = { s with prgRam := Memory.write p.prgRamPowerOn s.prgRam (lowRamOffset s off) v }) := by
  unfold lowRamWrite at h
  split at h
  · exact .inr (by simpa [eq_comm] using (ramWrite_eq_some ..).1 h)
  · exact .inl (by simpa [eq_comm] using h)

/-- A PRG-window write that answers changes PRG-RAM at most. -/
theorem prgWindowWrite_eq_some {p : Params} {a : BitVec 15} {v : Byte} {s t : State}
    (h : prgWindowWrite p a v s = some t) :
    t = s ∨ (prgOffset s a / 8192 < p.prgRamPages ∧
      t = { s with prgRam := Memory.write p.prgRamPowerOn s.prgRam (prgOffset s a) v }) := by
  unfold prgWindowWrite at h
  split at h
  · exact .inl (by simpa [eq_comm] using h)
  · split at h
    · exact .inl (by simpa [eq_comm] using h)
    · exact .inr (by simpa [eq_comm] using (ramWrite_eq_some ..).1 h)

/-- A CHR write changes CHR memory at most, at the offset its slot names. -/
theorem chrWindowWrite_eq (p : Params) (a : PatternAddr) (v : Byte) (s : State) :
    chrWindowWrite p a v s = s ∨
      chrWindowWrite p a v s = { s with chrMem := Memory.write p.chrRamPowerOn s.chrMem (chrOffset p s a) v } := by
  unfold chrWindowWrite chrMemWrite
  split
  · exact .inl rfl
  · split
    · exact .inl rfl
    · exact .inr rfl

/-- A PRG-RAM write keeps the canonical form. -/
theorem ramWrite_wf {p : Params} {off : Nat} {v : Byte} {s t : State} (h : ramWrite p off v s = some t)
    (hs : Memory.wf p.prgRamPowerOn s.prgRam = true) : Memory.wf p.prgRamPowerOn t.prgRam = true := by
  obtain ⟨-, rfl⟩ := (ramWrite_eq_some ..).1 h
  exact Memory.wf_write off v hs

/-- A CHR write keeps the canonical form. -/
theorem chrMemWrite_wf {p : Params} (off : Nat) (v : Byte) {s : State}
    (hs : Memory.wf p.chrRamPowerOn s.chrMem = true) :
    Memory.wf p.chrRamPowerOn (chrMemWrite p off v s).chrMem = true := Memory.wf_write off v hs

/-- The memories of the unit as it is created have the canonical form. -/
theorem reset_wf (p : Params) : Memory.wf p.prgRamPowerOn State.reset.prgRam = true ∧
    Memory.wf p.chrRamPowerOn State.reset.chrMem = true := ⟨rfl, rfl⟩

/-- The page of the byte a low RAM access addresses. -/
theorem lowRamOffset_page (s : State) (off : BitVec 13) : lowRamOffset s off / 8192 = s.lowRamPage := by
  unfold lowRamOffset; omega

/-- The page of the byte a high access addresses. -/
theorem prgOffset_page (s : State) (a : BitVec 15) : prgOffset s a / 8192 = (prgWindowOf s a).page := by
  unfold prgOffset; omega

/-- A pattern access stays in the CHR memory in every state (spec/40_bank_switch.md R157). -/
theorem chrOffset_lt (p : Params) (s : State) (a : PatternAddr) : chrOffset p s a < p.chrPages * 1024 := by
  have h := Nat.mod_lt (chrSlotOf p s a) p.chrPages_pos
  have := (patternOffset a).isLt
  unfold chrOffset; omega

/-! ### CHR bank writes -/

/-- The slots after a CHR bank write: those of `ApplyCHR` where the register is addressable, else unchanged. -/
theorem writeChrBank_eq (r : Fin 12) (v : Byte) (s : State) :
    writeChrBank r v s =
      { s with
        reg := s.reg.set (rChrBank r).val v
        chrHi := s.chrHi.set r.val s.chrHigh
        chrSlot := if chrAddressable s.chrMode r
          then applyChr s.chrMode r (s.chrHigh.toNat * 256 + v.toNat) s.chrSlot else s.chrSlot } := by
  unfold writeChrBank setReg; split <;> rfl

/-! ### The IRQ unit -/

theorem trackFrame_eq (p : Params) (line : Int) (s : State) :
    trackFrame p line s =
      { s with
        irqStatus := if line < p.lineP then s.irqStatus &&& 0xBF#8
          else if line = p.lineP then s.irqStatus ||| 0x40#8 else s.irqStatus
        irqLine := if line < p.lineP then false else s.irqLine
        extCalls := if line < p.lineP then s.extCalls ++ [.releaseInterrupt] else s.extCalls } := by
  unfold trackFrame
  split
  · rfl
  · split <;> rfl

theorem latchMatch_eq (p : Params) (cycle : Nat) (s : State) :
    latchMatch p cycle s =
      { s with irqStatus := if targetMatches p cycle s then s.irqStatus ||| 0x80#8 else s.irqStatus } := by
  unfold latchMatch; split <;> rfl

theorem driveLine_eq (p : Params) (s : State) :
    driveLine p s =
      { s with
        irqLine := if s.irqEnable && isPending s then true else s.irqLine
        extCalls := if s.irqEnable && isPending s then
            s.extCalls ++ .assertInterrupt :: (if p.notifiesObserver then [.notifyIrqObserver] else [])
          else s.extCalls } := by
  unfold driveLine notifyObserver
  split
  · cases hn : p.notifiesObserver <;> simp [assertLine, callOut]
  · rfl

/-- The status byte a PPU cycle leaves. -/
def syncStatus (p : Params) (cycle : Nat) (s : State) : Byte :=
  let framed := if p.cycleToRasterLine cycle < p.lineP then s.irqStatus &&& 0xBF#8
    else if p.cycleToRasterLine cycle = p.lineP then s.irqStatus ||| 0x40#8 else s.irqStatus
  if targetMatches p cycle s then framed ||| 0x80#8 else framed

/-- Everything a PPU cycle changes. -/
theorem syncPpu_eq (p : Params) (cycle : Nat) (s : State) :
    syncPpu p cycle s =
      { s with
        ppuCycle := cycle
        irqStatus := syncStatus p cycle s
        irqLine := if s.irqEnable && (syncStatus p cycle s).getLsbD 7 then true
          else if p.cycleToRasterLine cycle < p.lineP then false else s.irqLine
        extCalls := if s.irqEnable && (syncStatus p cycle s).getLsbD 7 then
            (if p.cycleToRasterLine cycle < p.lineP then s.extCalls ++ [.releaseInterrupt] else s.extCalls) ++
              .assertInterrupt :: (if p.notifiesObserver then [.notifyIrqObserver] else [])
          else if p.cycleToRasterLine cycle < p.lineP then s.extCalls ++ [.releaseInterrupt] else s.extCalls } := by
  simp only [syncPpu, driveLine_eq, latchMatch_eq, trackFrame_eq, isPending]
  rfl

/-- A PPU cycle changes `ppuCycle`, the status byte, the line and the external calls alone. -/
theorem syncPpu_frame (p : Params) (cycle : Nat) (s : State) :
    syncPpu p cycle s =
      { s with
        ppuCycle := cycle
        irqStatus := (syncPpu p cycle s).irqStatus
        irqLine := (syncPpu p cycle s).irqLine
        extCalls := (syncPpu p cycle s).extCalls } := by
  simp only [syncPpu, driveLine_eq, latchMatch_eq, trackFrame_eq]

/-! ### The channels -/

/-- The channel part of a quarter frame, of one channel: whether a half frame falls with it. -/
def quarterChannel (p : Params) (c : Square) (half : Bool) (q : SquareChan) : SquareChan :=
  if half then halfFrameClock p c (envelopeClock q) else envelopeClock q

theorem quarterFrame_eq (p : Params) (s : State) :
    quarterFrame p s =
      { s with
        sq1 := quarterChannel p .sq1 (decide (s.quarterCount + 1 = p.halfDiv)) s.sq1
        sq2 := quarterChannel p .sq2 (decide (s.quarterCount + 1 = p.halfDiv)) s.sq2
        quarterCount := if s.quarterCount + 1 = p.halfDiv then 0 else s.quarterCount + 1 } := by
  unfold quarterFrame quarterChannel
  split <;> simp_all

/-- The channel part of a CPU cycle before its samples, of one channel. -/
def cycleChannel (p : Params) (c : Square) (s : State) (q : SquareChan) : SquareChan :=
  let q' := if s.frameCtr + 1 = p.quarterPeriod
    then quarterChannel p c (decide (s.quarterCount + 1 = p.halfDiv)) q else q
  if s.apuParity then timerClock q' else q'

/-- The clocks of a CPU cycle: each channel by itself, and the frame counters. -/
theorem clocks_eq (p : Params) (s : State) :
    clockTimers (frameDivide p s) =
      { s with
        sq1 := cycleChannel p .sq1 s s.sq1
        sq2 := cycleChannel p .sq2 s s.sq2
        apuParity := !s.apuParity
        frameCtr := if s.frameCtr + 1 = p.quarterPeriod then 0 else s.frameCtr + 1
        quarterCount := if s.frameCtr + 1 = p.quarterPeriod then
            (if s.quarterCount + 1 = p.halfDiv then 0 else s.quarterCount + 1) else s.quarterCount } := by
  unfold clockTimers frameDivide cycleChannel
  by_cases hq : s.frameCtr + 1 = p.quarterPeriod <;> cases ha : s.apuParity <;>
    simp [hq, quarterFrame_eq]

end Sys2Proof.Machine
end

