-- ==== Sys2Proof/Laws/PerInstr.lean ====
section
/-!
SUPPORT. The per-instruction statements, one lemma per constructor of Instr.
-/
namespace Sys2Proof.Laws.EncodesLegalWord

/-- The operation's word has a kind from 0 to 9 and the bits 27:24 zero (spec/30_encoding.md R111, R117). -/
def Statement (i : Instr) : Prop := (encode i).toNat / 2 ^ 28 < 10 ∧ (encode i).toNat / 2 ^ 24 % 16 = 0

/-- The fields decide it. -/
theorem of_fields {i : Instr} (k : BitVec 4) (hlt : k.toNat < 10) (hk : (encodeFields i).kind = k)
    (hz : (encodeFields i).zero = 0) : Statement i := by
  have := (encodeFields i).data.isLt
  have := (encodeFields i).addr.isLt
  unfold Statement encode
  rw [packFields_toNat, hz, hk]
  simp only [BitVec.ofNat_eq_ofNat, BitVec.toNat_ofNat, Nat.zero_mod, Nat.zero_mul, Nat.add_zero]
  omega

theorem brSndStatus : Statement .brSndStatus := of_fields 0 (by decide) rfl rfl

theorem brIrqStatus : Statement .brIrqStatus := of_fields 0 (by decide) rfl rfl

theorem brMulLo : Statement .brMulLo := of_fields 0 (by decide) rfl rfl

theorem brMulHi : Statement .brMulHi := of_fields 0 (by decide) rfl rfl

theorem brPrgRamLo (off : BitVec 13) : Statement (.brPrgRamLo off) := of_fields 0 (by decide) rfl rfl

theorem brHigh (a : BitVec 15) : Statement (.brHigh a) := of_fields 0 (by decide) rfl rfl

theorem brUndriven (addr : CpuAddr) : Statement (.brUndriven addr) := of_fields 0 (by decide) rfl rfl

theorem bwDmcCtrl (v : Byte) : Statement (.bwDmcCtrl v) := of_fields 1 (by decide) rfl rfl

theorem bwDmcDac (v : Byte) : Statement (.bwDmcDac v) := of_fields 1 (by decide) rfl rfl

theorem bwSndEn (v : Byte) : Statement (.bwSndEn v) := of_fields 1 (by decide) rfl rfl

theorem bwPrgMode (v : Byte) : Statement (.bwPrgMode v) := of_fields 1 (by decide) rfl rfl

theorem bwChrMode (v : Byte) : Statement (.bwChrMode v) := of_fields 1 (by decide) rfl rfl

theorem bwProtA (v : Byte) : Statement (.bwProtA v) := of_fields 1 (by decide) rfl rfl

theorem bwProtB (v : Byte) : Statement (.bwProtB v) := of_fields 1 (by decide) rfl rfl

theorem bwExramMode (v : Byte) : Statement (.bwExramMode v) := of_fields 1 (by decide) rfl rfl

theorem bwNtMap (v : Byte) : Statement (.bwNtMap v) := of_fields 1 (by decide) rfl rfl

theorem bwPrgRamPage (v : Byte) : Statement (.bwPrgRamPage v) := of_fields 1 (by decide) rfl rfl

theorem bwChrHigh (v : Byte) : Statement (.bwChrHigh v) := of_fields 1 (by decide) rfl rfl

theorem bwSplitBank (v : Byte) : Statement (.bwSplitBank v) := of_fields 1 (by decide) rfl rfl

theorem bwIrqTarget (v : Byte) : Statement (.bwIrqTarget v) := of_fields 1 (by decide) rfl rfl

theorem bwIrqEnable (v : Byte) : Statement (.bwIrqEnable v) := of_fields 1 (by decide) rfl rfl

theorem bwMulA (v : Byte) : Statement (.bwMulA v) := of_fields 1 (by decide) rfl rfl

theorem bwMulB (v : Byte) : Statement (.bwMulB v) := of_fields 1 (by decide) rfl rfl

theorem bwSqCtrl (c : Square) (v : Byte) : Statement (.bwSqCtrl c v) := of_fields 1 (by decide) rfl rfl

theorem bwSqSweep (c : Square) (v : Byte) : Statement (.bwSqSweep c v) := of_fields 1 (by decide) rfl rfl

theorem bwSqTlo (c : Square) (v : Byte) : Statement (.bwSqTlo c v) := of_fields 1 (by decide) rfl rfl

theorem bwSqLen (c : Square) (v : Byte) : Statement (.bwSqLen c v) := of_fields 1 (by decide) rfl rfl

theorem bwFill (r : FillReg) (v : Byte) : Statement (.bwFill r v) := by
  cases r <;> exact of_fields 1 (by decide) rfl rfl

theorem bwSplit (r : SplitReg) (v : Byte) : Statement (.bwSplit r v) := by
  cases r <;> exact of_fields 1 (by decide) rfl rfl

theorem bwPrgBank (r : BitVec 2) (v : Byte) : Statement (.bwPrgBank r v) := of_fields 1 (by decide) rfl rfl

theorem bwChrBankBg (r : BitVec 2) (v : Byte) : Statement (.bwChrBankBg r v) := of_fields 1 (by decide) rfl rfl

theorem bwChrBankSpr (r : BitVec 3) (v : Byte) : Statement (.bwChrBankSpr r v) := of_fields 1 (by decide) rfl rfl

theorem bwPrgRamLo (off : BitVec 13) (v : Byte) : Statement (.bwPrgRamLo off v) := of_fields 1 (by decide) rfl rfl

theorem bwHigh (a : BitVec 15) (v : Byte) : Statement (.bwHigh a v) := of_fields 1 (by decide) rfl rfl

theorem bwUnmapped (addr : CpuAddr) (v : Byte) : Statement (.bwUnmapped addr v) := of_fields 1 (by decide) rfl rfl

theorem pr (a : PatternAddr) : Statement (.pr a) := of_fields 2 (by decide) rfl rfl

theorem pw (a : PatternAddr) (v : Byte) : Statement (.pw a v) := of_fields 3 (by decide) rfl rfl

theorem sc : Statement .sc := of_fields 4 (by decide) rfl rfl

theorem sp (cycle : Nat) (ppuAddr : BitVec 14) : Statement (.sp cycle ppuAddr) := of_fields 5 (by decide) rfl rfl

theorem am : Statement .am := of_fields 6 (by decide) rfl rfl

theorem rs (soft : Bool) : Statement (.rs soft) := of_fields 7 (by decide) rfl rfl

theorem mkMask (mask : BitVec 3) : Statement (.mkMask mask) := of_fields 8 (by decide) rfl rfl

theorem dr (addr : CpuAddr) : Statement (.dr addr) := of_fields 9 (by decide) rfl rfl

end Sys2Proof.Laws.EncodesLegalWord
end

