-- ==== Sys2Proof/Laws/RegMap.lean ====
section
/-!
SUPPORT. The register map, in the other direction: the address of each of the 44 registers.
-/
namespace Sys2Proof.Machine

/-- The address of register k (spec/10_state.md R33). -/
def regAddress (k : Nat) : Nat :=
  if k < 8 then 0x5000 + k else if k = 8 then 0x5010 else if k = 9 then 0x5011 else if k = 10 then 0x5015
  else if k < 19 then 0x5100 + (k - 11) else if k < 24 then 0x5113 + (k - 19)
  else if k < 36 then 0x5120 + (k - 24) else if k = 36 then 0x5130 else 0x5200 + (k - 37)

/-- The register map finds register k at its address. -/
theorem regIdx_regAddress : ∀ k : Fin 44, regIdx (BitVec.ofNat 16 (regAddress k.val)) = some k := by decide

/-- The register map finds register k at no other address. -/
theorem regIdx_eq_some {a : CpuAddr} {k : Fin 44} (h : regIdx a = some k) : a.toNat = regAddress k.val := by
  unfold regIdx at h
  dsimp only at h
  split at h
  · have e := congrArg Fin.val (Option.some.inj h); dsimp only at e; rw [← e]; unfold regAddress
    rw [if_pos (by omega)]; omega
  split at h
  · have e := Option.some.inj h; rw [← e]; assumption
  split at h
  · have e := Option.some.inj h; rw [← e]; assumption
  split at h
  · have e := Option.some.inj h; rw [← e]; assumption
  split at h
  · have e := congrArg Fin.val (Option.some.inj h); dsimp only at e; rw [← e]; unfold regAddress
    iterate 4 (rw [if_neg (by omega)])
    rw [if_pos (by omega)]; omega
  split at h
  · have e := congrArg Fin.val (Option.some.inj h); dsimp only at e; rw [← e]; unfold regAddress
    iterate 5 (rw [if_neg (by omega)])
    rw [if_pos (by omega)]; omega
  split at h
  · have e := congrArg Fin.val (Option.some.inj h); dsimp only at e; rw [← e]; unfold regAddress
    iterate 6 (rw [if_neg (by omega)])
    rw [if_pos (by omega)]; omega
  split at h
  · have e := Option.some.inj h; rw [← e]; assumption
  split at h
  · have e := congrArg Fin.val (Option.some.inj h); dsimp only at e; rw [← e]; unfold regAddress
    iterate 8 (rw [if_neg (by omega)])
    omega
  · cases h

/-- Every register lies below the low PRG-RAM window. -/
theorem regIdx_lt {a : CpuAddr} {k : Fin 44} (h : regIdx a = some k) : 0x5000 ≤ a.toNat ∧ a.toNat ≤ 0x5206 := by
  have := regIdx_eq_some h; have := k.isLt
  unfold regAddress at *
  split_ifs at * <;> omega

end Sys2Proof.Machine
end

