-- ==== Sys2Proof/Laws/Step.lean ====
section
/-!
SUPPORT. What a step can do, and how a property that every operation keeps is kept by every step.
-/
namespace Sys2Proof.Machine

/-- A step that answers: nothing was waiting and nothing changed, or the next call was taken off and its operation
answered. -/
theorem step_cases {s t : State} (h : step s = .next t) :
    (s.calls = [] ∧ t = s) ∨
      ∃ c rest i, s.calls = c :: rest ∧ decode c.word c.cycle = .ok i ∧ exec i { s with calls := rest } = .next t := by
  unfold step at h
  split at h
  next hc => exact .inl ⟨hc, by simpa [eq_comm] using h⟩
  next c rest hc =>
    split at h
    next i hi => exact .inr ⟨c, rest, i, hc, hi, h⟩
    next => cases h

/-- A property that does not speak of the waiting calls, and that every operation keeps, is kept by every step. -/
theorem step_keeps {P : State → Prop} (hcalls : ∀ s cs, P s → P { s with calls := cs })
    (hexec : ∀ i s t, P s → exec i s = .next t → P t) {s t : State} (hs : P s) (h : step s = .next t) : P t := by
  obtain ⟨-, rfl⟩ | ⟨c, rest, i, -, -, hi⟩ := step_cases h
  · exact hs
  · exact hexec i _ t (hcalls s rest hs) hi

/-- A step that faults: an operation did. -/
theorem step_fault {s : State} {f : Fault} (h : step s = .fault f) :
    ∃ c rest i, s.calls = c :: rest ∧ decode c.word c.cycle = .ok i ∧ exec i { s with calls := rest } = .fault f := by
  unfold step at h
  split at h
  next => cases h
  next c rest hc =>
    split at h
    next i hi => exact ⟨c, rest, i, hc, hi, h⟩
    next => cases h

end Sys2Proof.Machine
end

