-- ==== Sys2Proof/Tests/Slice0.lean ====
section
/-!
SUPPORT. Tests of single steps, their expected results taken from the spec (mostly spec/95_test_vectors.md),
    and for every
obligation with hypotheses a witness that meets them.
-/
namespace Sys2Proof.Tests

open Sys2Proof.Machine Sys2Proof.Claims

/-! ### Helpers -/

/-- The fixture of spec/95_test_vectors.md section 0. -/
def fixture : Params :=
  Params.withDefaults
    { Config.params with
      prgRomPages := 16
      prgRamPages := 8
      chrPages := 256
      cycleToRasterLine := fun c => ((c / 341 % 262 : Nat) : Int)
      cycleToRasterColumn := fun c => c % 341
      notifiesObserver := false
      prgRomPages_pos := by decide
      prgRamPages_pow := ⟨3, by decide, by decide⟩
      chrPages_pos := by decide }

/-- One field of the next state, where there is one. -/
def got {α : Type} (o : Host.Outcome State Fault Refusal) (f : State → α) : Option α :=
  match o with
  | .next s => some (f s)
  | .fault _ => none
  | .refused _ => none

/-- The step answers a next state. -/
def answers (o : Host.Outcome State Fault Refusal) : Bool := (got o fun _ => ()).isSome

/-- The refusal, where there is one. -/
def refusal (o : Host.Outcome State Fault Refusal) : Option Refusal :=
  match o with
  | .refused r => some r
  | .next _ => none
  | .fault _ => none

/-- The created unit with one call waiting. -/
def calling (w : OpWord) (cycle : Nat) : State := { State.reset with calls := [⟨w, cycle⟩] }

/-- The created unit with both write-protect keys set. -/
def unlockedUnit : State := { State.reset with protA := 2, protB := 1 }

/-- A Square channel with a timer period, a sweep shift and a sweep direction. -/
def sweeper (period : BitVec 11) (shift : BitVec 3) (negate : Bool) : SquareChan :=
  { SquareChan.zero with timerPeriod := period, sweepShift := shift, sweepNeg := negate }

/-! ### Well-formedness: an ill-formed operation for each check -/

theorem test_wf_read_high_address : Instr.wf (.brUndriven 0x8000) = false := by decide
theorem test_wf_read_driven_address : Instr.wf (.brUndriven 0x5204) = false := by decide
theorem test_wf_read_ram_window : Instr.wf (.brUndriven 0x6000) = false := by decide
theorem test_wf_write_high_address : Instr.wf (.bwUnmapped 0x8000 0) = false := by decide
theorem test_wf_write_register_address : Instr.wf (.bwUnmapped 0x5117 0) = false := by decide
theorem test_wf_write_ram_window : Instr.wf (.bwUnmapped 0x7FFF 0) = false := by decide
theorem test_wf_edges : Instr.wf (.brUndriven 0x5FFF) = true ∧ Instr.wf (.bwUnmapped 0x5FFF 0) = true ∧
    Instr.wf (.brUndriven 0x5203) = true ∧ Instr.wf (.bwUnmapped 0x5118 0) = true := by decide

/-! ### Decoding: words written out field by field, kind, zeros, data, address (spec/30_encoding.md R111, R114,
    R115) -/

theorem test_decode_reads :
    decode 0b0000_0000_00000000_0101000000010101 0 = .ok .brSndStatus ∧
    decode 0b0000_0000_00000000_0101001000000100 0 = .ok .brIrqStatus ∧
    decode 0b0000_0000_00000000_0101001000000101 0 = .ok .brMulLo ∧
    decode 0b0000_0000_00000000_0101001000000110 0 = .ok .brMulHi ∧
    decode 0b0000_0000_00000000_0111111111111111 0 = .ok (.brPrgRamLo 0x1FFF) ∧
    decode 0b0000_0000_00000000_1000000000000001 0 = .ok (.brHigh 0x0001) ∧
    decode 0b0000_0000_00000000_0101000100000000 0 = .ok (.brUndriven 0x5100) := by decide

theorem test_decode_channel_writes :
    decode 0b0001_0000_00010001_0101000000010000 0 = .ok (.bwDmcCtrl 0x11) ∧
    decode 0b0001_0000_11111111_0101000000010001 0 = .ok (.bwDmcDac 0xFF) ∧
    decode 0b0001_0000_00000001_0101000000010101 0 = .ok (.bwSndEn 0x01) ∧
    decode 0b0001_0000_10111111_0101000000000100 0 = .ok (.bwSqCtrl .sq2 0xBF) ∧
    decode 0b0001_0000_10001010_0101000000000001 0 = .ok (.bwSqSweep .sq1 0x8A) ∧
    decode 0b0001_0000_11111101_0101000000000110 0 = .ok (.bwSqTlo .sq2 0xFD) ∧
    decode 0b0001_0000_00001011_0101000000000011 0 = .ok (.bwSqLen .sq1 0x0B) := by decide

theorem test_decode_bank_writes :
    decode 0b0001_0000_00000011_0101000100000000 0 = .ok (.bwPrgMode 0x03) ∧
    decode 0b0001_0000_00000001_0101000100000001 0 = .ok (.bwChrMode 0x01) ∧
    decode 0b0001_0000_01000100_0101000100000101 0 = .ok (.bwNtMap 0x44) ∧
    decode 0b0001_0000_00001010_0101000100010011 0 = .ok (.bwPrgRamPage 0x0A) ∧
    decode 0b0001_0000_10001111_0101000100010111 0 = .ok (.bwPrgBank 3 0x8F) ∧
    decode 0b0001_0000_00000111_0101000100101011 0 = .ok (.bwChrBankBg 3 0x07) ∧
    decode 0b0001_0000_00000011_0101000100100111 0 = .ok (.bwChrBankSpr 7 0x03) ∧
    decode 0b0001_0000_00000011_0101000100110000 0 = .ok (.bwChrHigh 0x03) ∧
    decode 0b0001_0000_01110111_1000000000000001 0 = .ok (.bwHigh 0x0001 0x77) := by decide

theorem test_decode_other_writes :
    decode 0b0001_0000_00000010_0101000100000010 0 = .ok (.bwProtA 0x02) ∧
    decode 0b0001_0000_00000001_0101000100000011 0 = .ok (.bwProtB 0x01) ∧
    decode 0b0001_0000_00000001_0101000100000100 0 = .ok (.bwExramMode 0x01) ∧
    decode 0b0001_0000_00001111_0101000100000111 0 = .ok (.bwFill .attr 0x0F) ∧
    decode 0b0001_0000_10000000_0101001000000000 0 = .ok (.bwSplit .mode 0x80) ∧
    decode 0b0001_0000_00000010_0101001000000010 0 = .ok (.bwSplitBank 0x02) ∧
    decode 0b0001_0000_00010000_0101001000000011 0 = .ok (.bwIrqTarget 0x10) ∧
    decode 0b0001_0000_10000000_0101001000000100 0 = .ok (.bwIrqEnable 0x80) ∧
    decode 0b0001_0000_11111111_0101001000000101 0 = .ok (.bwMulA 0xFF) ∧
    decode 0b0001_0000_00000101_0101001000000110 0 = .ok (.bwMulB 0x05) ∧
    decode 0b0001_0000_01011010_0110000000000000 0 = .ok (.bwPrgRamLo 0 0x5A) ∧
    decode 0b0001_0000_00010010_0101100000000000 0 = .ok (.bwUnmapped 0x5800 0x12) := by decide

theorem test_decode_other_calls :
    decode 0b0010_0000_00000000_0001010000000000 0 = .ok (.pr 0x1400) ∧
    decode 0b0011_0000_10101010_0000000000010000 0 = .ok (.pw 0x0010 0xAA) ∧
    decode 0b0100_0000_00000000_0000000000000000 0 = .ok .sc ∧
    decode 0b0101_0000_00000000_0011111111111111 5456 = .ok (.sp 5456 0x3FFF) ∧
    decode 0b0110_0000_00000000_0000000000000000 0 = .ok .am ∧
    decode 0b0111_0000_00000001_0000000000000000 0 = .ok (.rs true) ∧
    decode 0b1000_0000_00000011_0000000000000000 0 = .ok (.mkMask 0b011) ∧
    decode 0b1001_0000_00000000_0101000100000000 0 = .ok (.dr 0x5100) := by decide

/-- The refused words of spec/95_test_vectors.md section 2.1. -/
theorem test_decode_refuses :
    decode 0xA0000000 0 = .error .illegalKind ∧ decode 0x01000000 0 = .error .reservedBits ∧
    decode 0x00015204 0 = .error .mustBeZero ∧ decode 0x40000001 0 = .error .mustBeZero ∧
    decode 0x80080000 0 = .error .mustBeZero ∧ decode 0x20002000 0 = .error .addressOutsideRange ∧
    decode 0x30002000 0 = .error .addressOutsideRange ∧ decode 0x50004000 0 = .error .mustBeZero ∧
    decode 0x70020000 0 = .error .mustBeZero := by decide

/-- `W $1FFF,#$00` (spec/95_test_vectors.md section 2.1) and the edges of the low range. -/
theorem test_step_refuses_below_range :
    refusal (step (calling 0x10001FFF 0)) = some .addressOutsideEntryPointRange ∧
    refusal (step (calling 0x0000401F 0)) = some .addressOutsideEntryPointRange ∧
    answers (step (calling 0x00004020 0)) = true ∧ answers (step (calling 0x10004020 0)) = true := by decide

theorem test_encode_words :
    encode (.bwPrgMode 0x03) = 0x10035100#32 ∧ encode (.pw 0x0010 0xAA) = 0x30AA0010#32 ∧
    encode (.bwHigh 0x0001 0x77) = 0x10778001#32 ∧ encode (.mkMask 0b011) = 0x80030000#32 ∧
    encode (.rs true) = 0x70010000#32 ∧ encode (.bwSqLen .sq1 0x09) = 0x10095003#32 := by decide

/-! ### Running a word from the created unit -/

theorem test_first_call_runs : step (State.reset.withFetchWord 32 0x10FF5205) = exec (.bwMulA 0xFF) State.reset := rfl

theorem test_table_word_decodes :
    decodeTableWord 32 0x10FF5205 = some (.bwMulA 0xFF) ∧ decodeTableWord 32 0xA0000000 = none := by decide

/-- A read through a PRG window completes from the created unit, however many pages the PRG-ROM has. -/
theorem test_high_read_runs_from_reset (a : BitVec 15) : ∃ t, exec (.brHigh a) State.reset = .next t := by
  have h : prgWindowOf State.reset a = ⟨.rom, 0x7F % Config.params.prgRomPages⟩ := by
    show (Vector.replicate 4 _)[(windowOf a).toNat] = _
    simp
  have hp : prgOffset State.reset a / 8192 = 0x7F % Config.params.prgRomPages := by
    unfold prgOffset; rw [h]; dsimp only; omega
  have hlt := Nat.mod_lt 0x7F Config.params.prgRomPages_pos
  show ∃ t, completeRead (prgWindowRead Config.params State.reset a) _ = .next t
  unfold prgWindowRead romRead
  rw [h]; dsimp only
  rw [hp, if_pos hlt]
  exact ⟨_, rfl⟩

/-! ### PRG mapping (spec/95_test_vectors.md sections 2.2 and 1, S8) -/

theorem test_derivePrg_schemes :
    derivePrg fixture 3 0x81 0x03 0x86 0x8F = #v[⟨.rom, 1⟩, ⟨.ram, 3⟩, ⟨.rom, 6⟩, ⟨.rom, 15⟩] ∧
    derivePrg fixture 0 0x81 0x03 0x86 0x8F = #v[⟨.rom, 12⟩, ⟨.rom, 13⟩, ⟨.rom, 14⟩, ⟨.rom, 15⟩] ∧
    derivePrg fixture 1 0x81 0x03 0x86 0x8F = #v[⟨.ram, 2⟩, ⟨.ram, 3⟩, ⟨.rom, 14⟩, ⟨.rom, 15⟩] ∧
    derivePrg fixture 2 0x81 0x03 0x86 0x8F = #v[⟨.ram, 2⟩, ⟨.ram, 3⟩, ⟨.rom, 6⟩, ⟨.rom, 15⟩] := by decide

theorem test_derivePrg_wraps :
    derivePrg fixture 1 0x99 0x99 0x99 0xFF = #v[⟨.rom, 8⟩, ⟨.rom, 9⟩, ⟨.rom, 14⟩, ⟨.rom, 15⟩] ∧
    (derivePrg fixture 3 0x95 0x03 0x86 0x05)[0] = ⟨.rom, 5⟩ ∧ (derivePrg fixture 3 0x05 0x03 0x86 0x05)[3] =
        ⟨.rom, 5⟩ ∧
    derivePrg { fixture with prgRomPages := 2, prgRomPages_pos := by decide } 3 0x82 0xFF 0xFF 0xFF =
      #v[⟨.rom, 0⟩, ⟨.rom, 1⟩, ⟨.rom, 1⟩, ⟨.rom, 1⟩] := by decide

/-- `W $5100,#$FF` gives prgMode 3 and stores its byte. -/
theorem test_bwPrgMode : got (exec (.bwPrgMode 0xFF) { State.reset with prgMode := 0 }) (fun t => (t.prgMode,
    t.reg[11])) =
    some (3, 0xFF) := by decide

/-- `W $5117,#$8F` stores its byte at index 23 and keeps the mode. -/
theorem test_bwPrgBank : got (exec (.bwPrgBank 3 0x8F) State.reset) (fun t => (t.prgMode, t.reg[22], t.reg[23])) =
    some (3, 0xFF, 0x8F) := by decide

/-- `W $5113,#$0A` selects page 2 of 8. -/
theorem test_ramPage : ramPage fixture 0x0A = 2 ∧
    got (exec (.bwPrgRamPage 0x0A) State.reset) (fun t => t.reg[19]) = some 0x0A := by decide

/-- `R $FFFC` with window 3 at ROM page 15 reads ROM offset 0x1FFFC. -/
theorem test_prgOffset :
    prgOffset { State.reset with prgWin := #v[⟨.rom, 0⟩, ⟨.rom, 0⟩, ⟨.rom, 0⟩, ⟨.rom, 15⟩] } 0x7FFC =
        0x1FFFC := by decide

/-! ### Write protection (spec/95_test_vectors.md section 2.4) -/

/-- `W $5102,#$FE` and `W $5103,#$FD` unlock: only bits 1:0 count. -/
theorem test_bwProtA : got (exec (.bwProtA 0xFE) State.reset) (fun t => (t.protA, t.protB, t.reg[13])) =
    some (2, 0, 0xFE) := by
  decide

theorem test_bwProtB : got (exec (.bwProtB 0xFD) State.reset) (fun t => (t.protA, t.protB, t.reg[14])) =
    some (0, 1, 0xFD) := by
  decide

theorem test_unlocked_for_one_pair : ∀ a b : BitVec 2, unlocked { State.reset with protA := a, protB := b } =
    decide (a = 2 ∧ b = 1) := by decide

/-- `R $6010` with low RAM page 1 reads RAM offset 0x2010. -/
theorem test_lowRamOffset : lowRamOffset { State.reset with lowRamPage := 1 } 0x0010 = 0x2010 := by decide

/-- A locked low write leaves PRG-RAM as it was; an unlocked one is read back. -/
theorem test_bwPrgRamLo_locked : got (exec (.bwPrgRamLo 0 0x5A) State.reset) (fun t => t.prgRam) =
    some [] := by decide

theorem test_bwPrgRamLo_unlocked : (lowRamWrite fixture 0 0x5A unlockedUnit).map
    (fun t => Memory.read fixture.prgRamPowerOn t.prgRam 0) = some 0x5A := by
  exact congrArg some (Memory.read_write_same _ _ _ _)

/-- A write through a ROM window changes nothing. -/
theorem test_bwHigh_rom : got (exec (.bwHigh 0x6000 0x12) unlockedUnit) (fun t => t.prgRam) = some [] := by decide

/-- `W $8003,#$77` with window 0 at RAM page 1 addresses RAM offset 0x2003, and nothing when locked. -/
theorem test_bwHigh_ram :
    prgOffset { State.reset with prgWin := #v[⟨.ram, 1⟩, ⟨.rom, 0⟩, ⟨.rom, 0⟩, ⟨.rom, 0⟩] } 0x0003 = 0x2003 ∧
    (prgWindowWrite fixture 0x0003 0x77
      { State.reset with prgWin := #v[⟨.ram, 1⟩, ⟨.rom, 0⟩, ⟨.rom, 0⟩, ⟨.rom, 0⟩] }).map (fun t => t.prgRam) =
    some [] := by
  decide

/-! ### CHR mapping (spec/95_test_vectors.md section 2.3) -/

/-- `W $5127,#$03` in mode 0 sets the sprite set alone. -/
theorem test_bwChrBankSpr : got (exec (.bwChrBankSpr 7 0x03) State.reset) (fun t => t.chrSlot) =
    some #v[24, 25, 26, 27, 28, 29, 30, 31, 0, 1, 2, 3] := by decide

/-- `W $5120,#$55` is not addressable in mode 0; `W $5120,#$FF` in mode 3 with chrHigh 3 sets slot 0 to 0x3FF. -/
theorem test_bwChrBankSpr_modes :
    got (exec (.bwChrBankSpr 0 0x55) State.reset) (fun t => (t.chrSlot[0], t.reg[24])) = some (0, 0x55) ∧
    got (exec (.bwChrBankSpr 0 0xFF) { State.reset with chrMode := 3, chrHigh := 3 })
      (fun t => (t.chrSlot[0], t.chrHi[0])) = some (0x3FF, 3) := by decide

/-- `W $512B,#$04` in mode 0 sets the background set alone. -/
theorem test_bwChrBankBg : got (exec (.bwChrBankBg 3 0x04) State.reset) (fun t => t.chrSlot) =
    some #v[0, 1, 2, 3, 4, 5, 6, 7, 32, 33, 34, 35] := by decide

/-- `W $5120+r,#$10+r` in mode 2, and then the other modes. -/
theorem test_derivedChr :
    let r : Vector Byte 44 :=
        resetRaw.set 25 0x11 |>.set 27 0x13 |>.set 29 0x15 |>.set 31 0x17 |>.set 33 0x19 |>.set 35 0x1B
    derivedChr { State.reset with reg := r, chrMode := 2 } = #v[34, 35, 38, 39, 42, 43, 46, 47, 50, 51, 54, 55] ∧
    derivedChr { State.reset with reg := r, chrMode := 1 } = #v[76, 77, 78, 79, 92, 93, 94, 95, 108, 109, 110, 111] ∧
    derivedChr { State.reset with reg := r, chrMode := 0 } =
      #v[184, 185, 186, 187, 188, 189, 190, 191, 216, 217, 218, 219] := by
  decide

/-- A mode write re-derives where CHR_REDERIVE_ON_MODE_WRITE says so, and else keeps the slots. -/
theorem test_chrModeWritten :
    (chrModeWritten fixture { State.reset with chrMode := 3 }).chrSlot = #v[0, 0, 0, 0, 0, 0, 0, 0, 0, 0, 0, 0] ∧
    (chrModeWritten { fixture with chrRederiveOnModeWrite := false } { State.reset with chrMode := 3 }).chrSlot =
      #v[0, 1, 2, 3, 4, 5, 6, 7, 0, 1, 2, 3] := by decide

theorem test_bwChrMode : got (exec (.bwChrMode 0x03) State.reset) (fun t => (t.chrMode, t.reg[12])) =
    some (3, 0x03) := by
  decide

theorem test_bwChrHigh : got (exec (.bwChrHigh 0xFF) State.reset) (fun t => (t.chrHigh, t.chrSlot[0], t.reg[36])) =
    some (3, 0, 0xFF) := by decide

/-- `PR $1C10` in the sprite columns reads slot 7 and just after them slot 11, the pages wrapped. -/
theorem test_chrOffset :
    let s : State := { State.reset with chrSlot := #v[272, 273, 274, 275, 276, 277, 278, 279, 32, 33, 34, 35] }
    chrOffset fixture { s with ppuCycle := 300 } 0x1C10 = 0x5C10 ∧
    chrOffset fixture { s with ppuCycle := 319 } 0x1C10 = 0x5C10 ∧
    chrOffset fixture { s with ppuCycle := 320 } 0x1C10 = 0x8C10 ∧
    chrOffset fixture { s with ppuCycle := 10 } 0x1005 = 0x8005 := by decide

/-- `W $5200,#$80`, `W $5104,#$01` and `W $5104,#$02` before a pattern read. -/
theorem test_splitOrExtended :
    splitOrExtended (setReg rSplitMode 0x80 State.reset) = true ∧
        splitOrExtended (setReg rExramMode 0x01 State.reset) = true ∧
    splitOrExtended (setReg rExramMode 0x02 State.reset) = false := by decide

/-- `PW $0010,#$AA` to a CHR ROM changes nothing; to a CHR RAM it is read back. -/
theorem test_chrWindowWrite :
    (chrWindowWrite fixture 0x0010 0xAA State.reset).chrMem = [] ∧
    (chrWindowWrite { fixture with chrWritable := true, chrRamPowerOn := fun _ => 0x00 }
        0x0010 0xAA State.reset).chrMem =
      [(0x0010, 0xAA)] := by decide

theorem test_bwNtMap : got (exec (.bwNtMap 0x44) State.reset) (fun t => t.extCalls) =
    some [.mirrorConfigure 0 1 0 1] ∧
    got (exec (.bwNtMap 0xE4) State.reset) (fun t => t.extCalls) = some [.mirrorConfigure 0 1 2 3] := by decide

/-! ### The IRQ unit (spec/95_test_vectors.md section 2.5) -/

/-- A PPU cycle on line L at column C. -/
def at_ (line column : Nat) : Nat := 341 * line + column

/-- Target 16, enabled: the rows `SP 15:0`, `SP 16:0`, `SP 17:0` after pending, `SP 238:0` of V-IRQ-1. -/
theorem test_syncPpu_lines :
    let s : State := { State.reset with irqTarget := 16, irqEnable := true }
    ((syncPpu fixture (at_ 15 0) s).irqStatus, (syncPpu fixture (at_ 15 0) s).irqLine) = (0x00, false) ∧
    ((syncPpu fixture (at_ 16 0) s).irqStatus, (syncPpu fixture (at_ 16 0) s).irqLine) = (0x80, true) ∧
    ((syncPpu fixture (at_ 17 0) { s with irqStatus := 0x80, irqLine := true }).irqLine) = true ∧
    ((syncPpu fixture (at_ 238 0) s).irqStatus, (syncPpu fixture (at_ 239 0) { s with irqStatus := 0x40 }).irqStatus,
      (syncPpu fixture 89342 { s with irqStatus := 0x40 }).irqStatus) = (0x40, 0x40, 0x00) := by decide

/-- V-IRQ-2, V-IRQ-3, and a target of 0. -/
theorem test_syncPpu_edges :
    ((syncPpu fixture (at_ 241 0) { State.reset with irqTarget := 240, irqStatus := 0x80, irqLine := true }).irqLine)
        = true ∧
    ((syncPpu fixture 89342 { State.reset with irqTarget := 240, irqStatus := 0x80, irqLine := true }).irqLine)
        = false ∧
    ((syncPpu { fixture with irqMatchColumn := some 260 } (at_ 16 0)
        { State.reset with irqTarget := 16 }).irqStatus) = 0x00 ∧
    ((syncPpu { fixture with irqMatchColumn := some 260 } (at_ 16 260)
        { State.reset with irqTarget := 16 }).irqStatus) = 0x80 ∧
    ((syncPpu fixture (at_ 0 0) State.reset).irqStatus) = 0x00 := by decide

/-- S10: `R $5204` returns 0xC0 and leaves 0x40 and the line released. -/
theorem test_brIrqStatus :
    got (exec .brIrqStatus { State.reset with irqStatus := 0xC0, irqEnable := true, irqLine := true })
      (fun t => (t.reply, t.irqStatus, t.irqLine, t.extCalls)) =
      some (.byte 0xC0, 0x40, false, [.releaseInterrupt]) := by decide

theorem test_bwIrqTarget : got (exec (.bwIrqTarget 0x10) State.reset) (fun t => (t.irqTarget, t.reg[40])) =
    some (0x10, 0x10) := by
  decide

/-- Enabling while pending does not assert the line. -/
theorem test_bwIrqEnable : got (exec (.bwIrqEnable 0x80) { State.reset with irqStatus := 0x80 })
    (fun t => (t.irqEnable, t.irqStatus, t.irqLine, t.extCalls)) = some (true, 0x80, false, []) := by decide

/-! ### The channels (spec/95_test_vectors.md section 2.6) -/

theorem test_bwSqCtrl : got (exec (.bwSqCtrl .sq1 0xBF) State.reset) (fun t => (t.sq1.duty, t.sq1.halt,
    t.sq1.constVol, t.sq1.vol)) =
    some (2, true, true, 15) := by decide

theorem test_bwSqSweep : got (exec (.bwSqSweep .sq2 0x8A) State.reset)
    (fun t => (t.sq2.sweepEn, t.sq2.sweepPeriod, t.sq2.sweepNeg, t.sq2.sweepShift, t.sq2.sweepReload)) =
    some (true, 0, true, 2, true) := by decide

theorem test_bwSqTlo : got (exec (.bwSqTlo .sq1 0xFD) { State.reset with sq1 := sweeper 0x308 0 false })
    (fun t => (t.sq1.timerPeriod, t.reg[2])) = some (0x3FD, 0xFD) := by decide

/-- `W $5003,#$0B` after `W $5002,#$FD`: with Square 1 enabled and disabled. -/
theorem test_bwSqLen :
    got (exec (.bwSqLen .sq1 0x0B)
        { State.reset with sq1 := { sweeper 0x0FD 0 false with enabled := true, seqPos := 5 } })
      (fun t => (t.sq1.timerPeriod, t.sq1.length, t.sq1.seqPos, t.sq1.envStart)) = some (0x3FD, 254, 0, true) ∧
    got (exec (.bwSqLen .sq1 0x0B) { State.reset with sq1 := sweeper 0x0FD 0 false }) (fun t => (t.sq1.timerPeriod,
        t.sq1.length)) =
      some (0x3FD, 0) := by decide

/-- Length table indices 0, 1, 24 and 31. -/
theorem test_lengthOf : (lengthOf 0, lengthOf 1, lengthOf 24, lengthOf 31) = (10, 254, 192, 30) := by decide

theorem test_bwDmcCtrl : got (exec (.bwDmcCtrl 0x8F) State.reset) (fun t => (t.dmcCtrl, t.dmcDac, t.reg[8])) =
    some (0x8F, 0, 0x8F) := by
  decide

/-- `W $5011,#$FF` with DMC_MASK 0x7F gives 0x7F and stores the whole byte. -/
theorem test_bwDmcDac : got (exec (.bwDmcDac 0xFF) State.reset) (fun t => t.reg[9]) = some 0xFF ∧
    0xFF#8 &&& fixture.dmcMask = 0x7F#8 := by decide

theorem test_bwSndEn : got (exec (.bwSndEn 0x01)
    { State.reset with sq2 := { SquareChan.zero with enabled := true, length := 9 } })
    (fun t => (t.sq1.enabled, t.sq2.enabled, t.sq2.length)) = some (true, false, 0) := by decide

theorem test_brSndStatus : got (exec .brSndStatus { State.reset with sq1 := { SquareChan.zero with length := 1 } })
    (fun t => t.reply) = some (.byte 0x01) := by decide

/-- The first SC after reset. -/
theorem test_syncCpu_first : ((syncCpu fixture State.reset).sampleCount, (syncCpu fixture State.reset).apuParity,
    (syncCpu fixture State.reset).sq1Buf, (syncCpu fixture State.reset).dmcBuf,
        (syncCpu fixture State.reset).frameCtr) =
    (1, true, [0], [0], 1) := by decide

/-- The second SC of the timer vector reloads the counter to 8 and steps the position from 0 to 7. -/
theorem test_timerClock : (timerClock { SquareChan.zero with timerPeriod := 8 }).timerCounter = 8 ∧
    (timerClock { SquareChan.zero with timerPeriod := 8 }).seqPos = 7 := by decide

/-- Quarter frames 1, 2 and 4 of the envelope vector. -/
theorem test_envelopeClock :
    envelopeClock { SquareChan.zero with vol := 2, envStart := true }
        = { SquareChan.zero with vol := 2, envDecay := 15, envDivider := 2 } ∧
    envelopeClock { SquareChan.zero with vol := 2, envDecay := 15, envDivider := 2 } =
      { SquareChan.zero with vol := 2, envDecay := 15, envDivider := 1 } ∧
    envelopeClock { SquareChan.zero with vol := 2, envDecay := 15, envDivider := 0 } =
      { SquareChan.zero with vol := 2, envDecay := 14, envDivider := 2 } := by decide

/-- The sweep target table. -/
theorem test_sweepTarget :
    (sweepTarget .sq1 (sweeper 0x100 1 false), sweepTarget .sq1 (sweeper 0x100 1 true),
        sweepTarget .sq2 (sweeper 0x100 1 true)) =
      (0x180, 0x07F, 0x080) ∧
    (sweepTarget .sq1 (sweeper 0x200 2 true), sweepTarget .sq2 (sweeper 0x200 2 true),
        sweepTarget .sq1 (sweeper 0x7FF 3 false)) =
      (0x17F, 0x180, 0x8FE) := by decide

theorem test_sweepMute :
    (sweepMute fixture .sq1 (sweeper 0x3FF 0 false), sweepMute fixture .sq1 (sweeper 0x400 0 false),
      sweepMute fixture .sq1 (sweeper 0x7FF 3 false), sweepMute fixture .sq1 (sweeper 0x007 0 false)) =
      (false, true, true, true) := by decide

/-- Period 8, shift 1, negated, Square 1: the pseudocode's target is 3 (notes/assumptions/15.md). -/
theorem test_sweepClock_small : (sweepClock fixture .sq1 { sweeper 8 1 true with sweepEn := true }).timerPeriod =
    3 := by decide

/-- Duty 2 sounds at positions 1 to 4 alone. -/
theorem test_dutyBit : ∀ k : BitVec 3, dutyBit 2 k = decide (1 ≤ k.toNat ∧ k.toNat ≤ 4) := by decide

theorem test_mkMask : got (exec (.mkMask 0b011) State.reset) (fun t => (t.chanMask,
    dmcSample { t with dmcDac := 0x7F })) =
    some (0b011, 0) := by decide

/-! ### The mixer (spec/95_test_vectors.md section 2.8) -/

/-- The average of a frame of samples. -/
def average (a b d : List Nat) : Int :=
    frameAverage fixture { State.reset with sq1Buf := a, sq2Buf := b, dmcBuf := d, sampleCount := a.length }

theorem test_frameAverage :
    average [15, 15, 15, 15] [0, 0, 0, 0] [0, 0, 0, 0] = 2447 ∧ average [15, 15, 15, 15] [15, 15, 15, 15] [127,
        127, 127, 127] = 13643 ∧
    average [0, 0] [0, 0] [1, 1] = 115 ∧ average [15, 0] [0, 0] [0, 0] = 1223 ∧ average [] [] [] =
        0 := by decide +kernel

theorem test_smooth : (smooth 0 2447, smooth 0 13643, smooth 2440 2447, smooth 100 0, smooth 10000 0,
    smooth (-10000) 0) =
    (2440, 13608, 2446, 1, 26, -26) ∧ (smooth 32767 0, smooth (-32768) 0, smooth 26 0, smooth (-1) 0) = (83, -83,
        1, -1) := by decide

/-- An `AM` with no samples: the previous output 100 decays to 1, and the buffers are empty. -/
theorem test_am : got (exec .am { State.reset with mixPrev := 100 }) (fun t => (t.reply, t.mixPrev, t.sampleCount)) =
    some (.sample 1, 1, 0) := by decide

/-! ### The multiplier (spec/95_test_vectors.md section 2.7) -/

theorem test_bwMulA : got (exec (.bwMulA 0x03) { State.reset with mulB := 0xFF }) (fun t => (t.mulA, t.product)) =
    some (0x03, 0x02FD) := by
  decide

theorem test_bwMulB : got (exec (.bwMulB 0xFF) { State.reset with mulA := 0xFF }) (fun t => (t.mulB, t.product)) =
    some (0xFF, 0xFE01) := by
  decide

theorem test_brMulLo : got (exec .brMulLo { State.reset with product := 0xFE01 }) (fun t => t.reply) =
    some (.byte 0x01) := by decide

theorem test_brMulHi : got (exec .brMulHi { State.reset with product := 0xFE01 }) (fun t => t.reply) =
    some (.byte 0xFE) := by decide

/-! ### The register bank and reset (spec/95_test_vectors.md sections 2.9 and 2.10) -/

theorem test_dr : got (exec (.dr 0x5100) State.reset) (fun t => t.reply) = some (.register (some 0x03)) ∧
    got (exec (.dr 0x5117) State.reset) (fun t => t.reply) = some (.register (some 0xFF)) ∧
    got (exec (.dr 0x5008) State.reset) (fun t => t.reply) = some (.register none) := by decide

/-- `DR $5204` after `W $5204,#$80` returns 0x80 and clears nothing. -/
theorem test_dr_is_pure : got (exec (.dr 0x5204) { setReg rIrqCtrl 0x80 State.reset with irqStatus := 0xC0 })
    (fun t => (t.reply, t.irqStatus)) = some (.register (some 0x80), 0xC0) := by decide

theorem test_stored_only : got (exec (.bwSplit .mode 0x80) State.reset) (fun t => t.reg[37]) = some 0x80 ∧
    got (exec (.bwFill .attr 0x0F) State.reset) (fun t => (t.reg[17], t.reg[18])) = some (0x00, 0x0F) ∧
    got (exec (.bwExramMode 0x02) State.reset) (fun t => t.reg[15]) = some 0x02 ∧
    got (exec (.bwSplitBank 0x07) State.reset) (fun t => t.reg[39]) = some 0x07 := by decide

/-- `W $5800,#$12` changes no register; `R $5C00` draws. -/
theorem test_no_register : got (exec (.bwUnmapped 0x5800 0x12) State.reset) (fun t => t.reg) = some resetRaw ∧
    got (exec (.brUndriven 0x5C00) State.reset) (fun t => t.drawCtr) = some 1 := by decide

/-- Reset keeps the mask and the memories and sets the registers. -/
theorem test_rs : got (exec (.rs true)
    { State.reset with chanMask := 0, prgRam := [(0, 0x5A)], reg := Vector.replicate 44 0x77, irqLine := true })
    (fun t => (t.chanMask, t.prgRam, t.reg, t.irqLine, t.extCalls)) =
    some (0, [(0, 0x5A)], resetRaw, false, [.releaseInterrupt, .mirrorConfigure 0 0 0 0]) := rfl

/-! ### Witnesses: states and operands that meet the hypotheses of each obligation -/

/-- One call waiting: a write to the multiplier. -/
theorem witness_step (P : State → Prop) (h : P (calling 0x10FF5205 0)) : ∃ s t, P s ∧ step s = .next t :=
  ⟨_, _, h, rfl⟩

theorem test_witness_EncodedOperationDecodesBack : Instr.wf (.brUndriven 0x0000) = true ∧
    Instr.wf (.bwUnmapped 0x5FFF 0xFF) = true := by
  decide

theorem test_witness_DecodedWordEncodesBack :
    decode 0x10035100 0 = .ok (.bwPrgMode 0x03) ∧ decode 0x50003FFF 89341 = .ok (.sp 89341 0x3FFF) := by decide

theorem test_witness_WordsRefusedExactly :
    ((calling 0x01000000 0).calls = [⟨0x01000000, 0⟩] ∧ ¬ fieldsLegal 0x01000000) ∧
    ((calling 0x20002000 0).calls = [⟨0x20002000, 0⟩] ∧ fieldsLegal 0x20002000 ∧ patternOutOfRange 0x20002000) ∧
    ((calling 0x30AA1FFF 0).calls = [⟨0x30AA1FFF, 0⟩] ∧ fieldsLegal 0x30AA1FFF ∧ ¬ patternOutOfRange 0x30AA1FFF) := by
  refine ⟨⟨rfl, ?_⟩, ⟨rfl, ?_, ?_⟩, ⟨rfl, ?_, ?_⟩⟩ <;>
    simp [fieldsLegal, patternOutOfRange, zeroOf, kindOf, dataOf, addrOf]

theorem test_witness_StepRunsTheDecodedCall :
    State.reset.calls = [] ∧
    ((calling 0x40000000 0).calls = [⟨0x40000000, 0⟩] ∧ decode 0x40000000 0 = .ok .sc) ∧
    ((calling 0xA0000000 0).calls = [⟨0xA0000000, 0⟩] ∧ decode 0xA0000000 0 = .error .illegalKind) := by decide

theorem test_witness_CallsBelowTheLowRangeRefused : (0x0000#16).toNat < 0x4020 ∧
    (0x401F#16).toNat < 0x4020 := by decide

/-- Three calls that run: a register write, an unmapped write, a reset. -/
theorem test_witness_RawRegistersHoldTheLastWrite :
    ∃ (is : List Instr) (s t : State), (∀ i ∈ is, i.wf = true) ∧ s.calls = is.map asCall ∧ is.length = 3 ∧
      Sys2Proof.core.run is.length s = .next t :=
  ⟨[.bwMulA 7, .bwUnmapped 0x5FFF 1, .bwSplitBank 2],
    { State.reset with calls := [.bwMulA 7, .bwUnmapped 0x5FFF 1, .bwSplitBank 2].map asCall }, _, by decide, rfl,
        rfl, rfl⟩

theorem test_witness_DebugReadShowsTheRawRegister :
    registerAddresses[(0 : Fin 44).val]? = some 0x5000 ∧ registerAddresses[(43 : Fin 44).val]? = some 0x5206 ∧
    0x5008#16 ∉ registerAddresses ∧ 0x5207#16 ∉ registerAddresses := by decide

theorem test_witness_UndrivenReadReturnsADraw :
    ∀ a ∈ [0x4020#16, 0x5FFF#16], 0x4020 ≤ a.toNat ∧ a.toNat ≤ 0x5FFF ∧ a ≠ 0x5015#16 ∧ a ≠ 0x5204#16 ∧
        a ≠ 0x5205#16 ∧ a ≠ 0x5206#16 := by
  simp

theorem test_witness_UnmappedWriteIsIgnored :
    ∀ a ∈ [0x4020#16, 0x5207#16, 0x5FFF#16], 0x4020 ≤ a.toNat ∧ a.toNat ≤ 0x5FFF ∧ a ∉ registerAddresses := by
  simp [registerAddresses]

/-- The windows of the created unit are the derived ones. -/
theorem reset_prgWin_derived : Vector.replicate 4 ⟨.rom, 0x7F % Config.params.prgRomPages⟩ =
    derivePrg Config.params 3 0xFF 0xFF 0xFF 0xFF := by
  show _ = #v[romWin Config.params 0xFF 0x7F 0, romWin Config.params 0xFF 0x7F 0, romWin Config.params 0xFF 0x7F 0,
    romWin Config.params 0xFF 0x7F 0]
  rfl

/-- In the created unit's mode 3, `$5114` drives window 0 alone; in mode 0, it drives none. -/
theorem test_witness_InactivePrgWriteLeavesTheWindows :
    PrgTableDerived (calling 0x10FF5205 0) ∧ ¬ drivesWindow 3 0 1 ∧ drivesWindow 3 0 0 ∧ ¬ drivesWindow 0 0 0 ∧
        ¬ drivesWindow 2 3 2 :=
  ⟨reset_prgWin_derived, by simp [drivesWindow], by simp [drivesWindow], by simp [drivesWindow],
      by simp [drivesWindow]⟩

theorem test_witness_PrgTableStaysDerived : ∃ s t, PrgTableDerived s ∧ step s = .next t :=
  witness_step _ reset_prgWin_derived

/-- A state with a window of each kind, and one whose page its memory does not have. -/
def windowed : State :=
  { State.reset with
    prgWin := #v[⟨.rom, 0⟩, ⟨.ram, 0⟩, ⟨.ram, Config.params.prgRamPages⟩, ⟨.rom, Config.params.prgRomPages⟩] }

theorem test_witness_HighReadDereferencesItsWindow :
    (windowed.prgWin[(0x1FFF#15).toNat / 8192]'(by decide) = ⟨.rom, 0⟩ ∧ 0 < Config.params.prgRomPages) ∧
    (windowed.prgWin[(0x2000#15).toNat / 8192]'(by decide) = ⟨.ram, 0⟩ ∧ 0 < Config.params.prgRamPages) ∧
    (windowed.prgWin[(0x4000#15).toNat / 8192]'(by decide) = ⟨.ram, Config.params.prgRamPages⟩ ∧
      pagesOf Config.params .ram ≤ Config.params.prgRamPages) ∧
    (windowed.prgWin[(0x7FFF#15).toNat / 8192]'(by decide) = ⟨.rom, Config.params.prgRomPages⟩ ∧
      pagesOf Config.params .rom ≤ Config.params.prgRomPages) :=
  ⟨⟨rfl, Nat.succ_pos _⟩, ⟨rfl, Nat.succ_pos _⟩, ⟨rfl, le_rfl⟩, ⟨rfl, le_rfl⟩⟩

theorem test_witness_LowRamReadIsUngated :
    State.reset.lowRamPage < Config.params.prgRamPages ∧
    Config.params.prgRamPages ≤ { State.reset with lowRamPage := Config.params.prgRamPages }.lowRamPage :=
  ⟨Nat.succ_pos _, le_rfl⟩

theorem test_witness_LowRamWriteNeedsBothKeys :
    ¬ keysSet State.reset ∧ (keysSet unlockedUnit ∧ unlockedUnit.lowRamPage < Config.params.prgRamPages) ∧
    (let s : State := { unlockedUnit with lowRamPage := Config.params.prgRamPages };
      keysSet s ∧ Config.params.prgRamPages ≤ s.lowRamPage) :=
  ⟨by simp [keysSet, State.reset], ⟨by simp [keysSet, unlockedUnit], Nat.succ_pos _⟩,
    by simp [keysSet, unlockedUnit], le_rfl⟩

/-- The pair (2, 1) through bytes whose other bits are set, and a pair next to it. -/
theorem test_witness_OnlyTheTwoKeyPairUnlocks :
    State.reset.lowRamPage < Config.params.prgRamPages ∧ ((0xFE#8).toNat % 4 = 2 ∧ (0xFD#8).toNat % 4 = 1) ∧
    ¬ ((0xFE#8).toNat % 4 = 2 ∧ (0xFE#8).toNat % 4 = 1) :=
  ⟨Nat.succ_pos _, by decide, by decide⟩

/-- A ROM window, a RAM window, and one whose page the RAM does not have; both keys set, and not. Whether the latch gates
is a parameter. -/
theorem test_witness_HighWriteReachesRamOnly :
    (windowed.prgWin[(0x0000#15).toNat / 8192]'(by decide) = ⟨.rom, 0⟩) ∧
    (windowed.prgWin[(0x2000#15).toNat / 8192]'(by decide) = ⟨.ram, 0⟩ ∧ 0 < Config.params.prgRamPages) ∧
    (windowed.prgWin[(0x4000#15).toNat / 8192]'(by decide) = ⟨.ram, Config.params.prgRamPages⟩) ∧
    (Config.params.highRamProtected = true → keysSet { windowed with protA := 2, protB := 1 }) ∧ ¬ keysSet windowed ∧
    (TopWindowIsRom State.reset ∧ 3 * 8192 ≤ (0x6000#15).toNat) :=
  ⟨rfl, ⟨rfl, Nat.succ_pos _⟩, rfl, fun _ => by simp [keysSet], by simp [keysSet, windowed, State.reset], rfl, by decide⟩

theorem test_witness_OneRamHasTwoViews :
    let s : State := { unlockedUnit with prgWin := #v[⟨.ram, 0⟩, ⟨.rom, 0⟩, ⟨.rom, 0⟩, ⟨.rom, 0⟩] }
    keysSet s ∧ s.prgWin[(0x1FFF#15).toNat / 8192]'(by decide) = ⟨.ram, s.lowRamPage⟩ ∧
      s.lowRamPage < Config.params.prgRamPages ∧ (0x1FFF#15).toNat % 8192 = (0x1FFF#13).toNat :=
  ⟨by simp [keysSet, unlockedUnit], rfl, Nat.succ_pos _, by decide⟩

/-- Registers 0, 7, 8 and 11. -/
theorem test_witness_ChrBankWriteSetsItsSlots (v : Byte) :
    ∀ r ∈ [(0, Instr.bwChrBankSpr 0 v), (7, .bwChrBankSpr 7 v), (8, .bwChrBankBg 0 v), (11, .bwChrBankBg 3 v)],
      (∃ k : BitVec 3, r.2 = .bwChrBankSpr k v ∧ r.1 = k.toNat) ∨ (∃ k : BitVec 2, r.2 = .bwChrBankBg k v ∧ r.1 =
          8 + k.toNat) := by
  intro r hr
  simp only [List.mem_cons, List.not_mem_nil, or_false] at hr
  rcases hr with rfl | rfl | rfl | rfl
  · exact .inl ⟨0, rfl, rfl⟩
  · exact .inl ⟨7, rfl, rfl⟩
  · exact .inr ⟨0, rfl, rfl⟩
  · exact .inr ⟨3, rfl, rfl⟩

/-- The CHR slots of the created unit are the derived ones. -/
theorem reset_chrSlot_derived : ChrTableDerived State.reset := fun _ => rfl

theorem test_witness_ChrTableStaysDerived : ∃ s t, ChrTableDerived s ∧ step s = .next t :=
  witness_step _ reset_chrSlot_derived

theorem test_witness_ChrModesAgreeOnTheSamePages : 127 ≤ 127 ∧ State.reset.chrHigh = 0 := by decide

/-- Every address has its offset, whichever set its column selects; the split and ExRAM mode 1 by their registers. -/
theorem test_witness_PatternRead (s : State) (a : PatternAddr) : ∃ o, patternByteOffset s a o := by
  by_cases h : spriteFetch s
  · exact ⟨_, fun _ => rfl, fun n => absurd h n⟩
  · exact ⟨_, fun n => absurd n h, fun _ => rfl⟩

theorem test_witness_PatternReadFollowsItsSlot : splitActive (setReg rSplitMode 0x80 State.reset) ∧
    splitActive (setReg rExramMode 0x01 State.reset) ∧ ¬ splitActive (setReg rSplitMode 0x7F State.reset) ∧
    ¬ splitActive (setReg rExramMode 0x02 State.reset) := by
  refine ⟨.inl ?_, .inr ?_, ?_, ?_⟩
  · decide
  · decide
  · unfold splitActive; decide
  · unfold splitActive; decide

/-- The split is not active, and is; whether the CHR memory is RAM is a parameter. -/
theorem test_witness_PatternWriteReachesChrRamOnly : ¬ splitActive State.reset ∧
    ¬ (Config.params.chrWritable = true ∧ ¬ splitActive (setReg rSplitMode 0x80 State.reset)) :=
  ⟨by unfold splitActive; decide, fun h => h.2 (.inl (by decide))⟩

theorem test_witness_PpuCycleTracksTheRaster : ∃ line, Config.params.cycleToRasterLine 5456 = line := ⟨_, rfl⟩

theorem test_witness_AssertedLineStaysPending : ∃ s t, LineImpliesPending s ∧ step s = .next t :=
  witness_step _ fun h => by cases h

/-- Line 16 at its first and last column. -/
theorem test_witness_AcknowledgeOnTheTargetLineIsUndone :
    let s : State := { State.reset with irqTarget := 16, irqEnable := true }
    fixture.irqMatchColumn = none ∧ 0 < s.irqTarget.toNat ∧ fixture.cycleToRasterLine (at_ 16 0) = s.irqTarget.toNat ∧
      fixture.cycleToRasterLine (at_ 16 340) = s.irqTarget.toNat ∧ s.irqEnable = true := by decide

theorem test_witness_OnlyPpuCyclesAssertTheLine :
    ∃ t, exec .brIrqStatus { State.reset with irqLine := true, irqStatus := 0x80 } = .next t ∧ t.irqLine =
        false := ⟨_, rfl, rfl⟩

/-- The three cases of the frame divider. -/
theorem test_witness_CpuCycleClocksTheChannels :
    ({ State.reset with frameCtr := Config.params.quarterPeriod }.frameCtr + 1 ≠ Config.params.quarterPeriod) ∧
    (∃ s : State, s.frameCtr + 1 = Config.params.quarterPeriod ∧ s.quarterCount + 1 ≠ Config.params.halfDiv) ∧
    (∃ s : State, s.frameCtr + 1 = Config.params.quarterPeriod ∧ s.quarterCount + 1 = Config.params.halfDiv) :=
  ⟨Nat.succ_ne_self _,
    ⟨{ State.reset with frameCtr := Config.quarterPeriodLessOne, quarterCount := Config.params.halfDiv }, rfl,
        Nat.succ_ne_self _⟩,
    ⟨{ State.reset with frameCtr := Config.quarterPeriodLessOne, quarterCount := Config.halfDivLessOne }, rfl, rfl⟩⟩

theorem test_witness_SequencerStepsOncePerPeriod :
    let q : SquareChan := { SquareChan.zero with timerPeriod := 8 }
    0 ≤ q.timerPeriod.toNat ∧ 8 ≤ q.timerPeriod.toNat ∧ q.timerCounter = 0 ∧ q.timerCounter.toNat = 0 ∧
      0 < { q with timerCounter := 1 }.timerCounter.toNat := by decide

theorem test_witness_EnvelopeClockCountsDown :
    { SquareChan.zero with envStart := true }.envStart = true ∧
    (let q : SquareChan := { SquareChan.zero with envDivider := 1 }; q.envStart = false ∧ 0 < q.envDivider.toNat) ∧
    (SquareChan.zero.envStart = false ∧ SquareChan.zero.envDivider.toNat = 0) := by decide

/-- A channel whose sweep fires, and one whose sweep does not. -/
theorem test_witness_SweepClockWritesTheTarget :
    { fixture with squareSweep := false }.squareSweep = false ∧ fixture.squareSweep = true ∧
    (let q : SquareChan := { sweeper 8 1 true with sweepEn := true };
      q.sweepDivider = 0 ∧ q.sweepEn = true ∧ q.sweepShift ≠ 0 ∧ sweepMute fixture .sq1 q = false) ∧
    sweepMute fixture .sq1 (sweeper 7 1 true) = true := by decide

theorem test_witness_DisabledChannelStaysSilent : ∃ s t, DisabledIsSilent s ∧ step s = .next t :=
  witness_step _ ⟨fun _ => rfl, fun _ => rfl⟩

/-- A channel that sounds, and one that is masked. -/
theorem test_witness_SquareSampleIsFourBits :
    let s : State := { State.reset with sq1 := { sweeper 8 0 false with length := 1, duty := 3 } }
    (s.chanMask.getLsbD 0 = true ∧ (getSquare s .sq1).length ≠ 0 ∧ sweepMute fixture .sq1 (getSquare s .sq1) = false ∧
      dutyOn (getSquare s .sq1).duty.toNat (getSquare s .sq1).seqPos.toNat) ∧
    { s with chanMask := 0 }.chanMask.getLsbD 0 = false := by
  refine ⟨⟨by decide, by decide, by decide, ?_⟩, by decide⟩
  exact ⟨by decide, by decide⟩

/-- Two states that agree on Square 1 and differ on Square 2. -/
theorem test_witness_SquaresAreIndependent :
    let s' : State := { State.reset with sq2 := sweeper 8 1 true }
    getSquare State.reset .sq1 = getSquare s' .sq1 ∧ State.reset.apuParity = s'.apuParity ∧
      State.reset.frameCtr = s'.frameCtr ∧ State.reset.quarterCount = s'.quarterCount ∧
      (∃ t, exec .sc State.reset = .next t) ∧ ∃ t', exec .sc s' = .next t' :=
  ⟨rfl, rfl, rfl, rfl, ⟨_, rfl⟩, ⟨_, rfl⟩⟩

theorem test_witness_AudioAmplitudeMixesAndDrains (s : State) :
    ∃ y, y = s.mixPrev + ((averageOf Config.params s - s.mixPrev) * 65371).tdiv 65536 := ⟨_, rfl⟩

theorem test_witness_MixedSampleStaysBelow13644 : fixture.mixScale = 16384 ∧ 15 ≤ 15 ∧ 127 ≤ 127 := ⟨rfl, le_rfl,
    le_rfl⟩

theorem test_witness_ProductStaysThatOfTheOperands : ∃ s t, ProductHolds s ∧ step s = .next t := witness_step _ rfl

/-- A read that draws nothing, and one that draws. -/
theorem test_witness_OtherReadsHaveNoSideEffect :
    (∃ t, exec .brSndStatus State.reset = .next t ∧ t.drawCtr = State.reset.drawCtr) ∧
    ∃ t, exec (.brUndriven 0x5C00) State.reset = .next t ∧ t.drawCtr = State.reset.drawCtr + 1 :=
  ⟨⟨_, rfl, rfl⟩, ⟨_, rfl, rfl⟩⟩

theorem test_witness_OnlyRamWritesChangeMemory : ∃ t, exec (.bwMulA 3) State.reset = .next t := ⟨_, rfl⟩

/-- A unit with a call waiting on which every invariant holds. -/
theorem good_calling : Good (calling 0x10FF5205 0) where
  memoryCanonical := ⟨rfl, rfl⟩
  memoryBounded := ⟨by simp [calling, State.reset], by simp [calling, State.reset]⟩
  windowsInRange := by
    refine ⟨fun w => ?_, Nat.succ_pos _⟩
    have h : (calling 0x10FF5205 0).prgWin[w] = ⟨.rom, 0x7F % Config.params.prgRomPages⟩ := by
      show (Vector.replicate 4 _)[w.val] = _
      simp
    rw [h]
    exact Nat.mod_lt _ Config.params.prgRomPages_pos
  topWindowIsRom := rfl
  prgTableDerived := reset_prgWin_derived
  lowRamDerived := (Nat.zero_mod _).symm
  chrTableDerived := reset_chrSlot_derived
  chrSlotsBounded := by unfold ChrSlotsBounded; decide
  latchesFollowRegisters := ⟨rfl, rfl, rfl, rfl, rfl, rfl, rfl, rfl, rfl, rfl, BitVec.zero_and.symm⟩
  statusLowBitsClear := rfl
  lineImpliesPending := fun h => by cases h
  productHolds := rfl
  disabledIsSilent := ⟨fun _ => rfl, fun _ => rfl⟩
  dmcAlwaysEnabled := rfl
  frameCountersInRange := ⟨Nat.succ_pos _, Nat.succ_pos _⟩
  buffersCounted := ⟨rfl, rfl, rfl⟩
  samplesInRange := ⟨by simp [calling, State.reset], by simp [calling, State.reset], by simp [calling, State.reset]⟩
  mixInRange := ⟨by decide, by decide⟩

theorem test_witness_EveryStepKeepsTheInvariants : ∃ s t, Good s ∧ step s = .next t := witness_step _ good_calling

theorem test_witness_NoStepLeavesTheMemories : ∃ s, Good s := ⟨_, good_calling⟩

end Sys2Proof.Tests
end

section
/-!
Decoding gives back what was encoded (spec/30_encoding.md R111 to R115).
-/
namespace Sys2Proof.Machine

/-! ### The bus dispatch where no register stands (spec/30_encoding.md R112, R114, R115) -/

/-- A field of an address, by division. -/
theorem field_eq_iff (a : CpuAddr) (k m c : Nat) :
    a.extractLsb' k m = BitVec.ofNat m c ↔ a.toNat / 2 ^ k % 2 ^ m = c % 2 ^ m := by
  rw [extractLsb'_eq_div, ← BitVec.toNat_inj, BitVec.toNat_ofNat, BitVec.toNat_ofNat]

/-- Where no register stands, by comparison of the address. -/
theorem regIdx_eq_none_iff (a : CpuAddr) :
    regIdx a = none ↔
      ¬ (0x5000 ≤ a.toNat ∧ a.toNat ≤ 0x5007) ∧ a.toNat ≠ 0x5010 ∧ a.toNat ≠ 0x5011 ∧ a.toNat ≠ 0x5015 ∧
      ¬ (0x5100 ≤ a.toNat ∧ a.toNat ≤ 0x5107) ∧ ¬ (0x5113 ≤ a.toNat ∧ a.toNat ≤ 0x5117) ∧
      ¬ (0x5120 ≤ a.toNat ∧ a.toNat ≤ 0x512B) ∧ a.toNat ≠ 0x5130 ∧ ¬ (0x5200 ≤ a.toNat ∧ a.toNat ≤ 0x5206) := by
  unfold regIdx
  dsimp only
  split_ifs <;> simp_all

/-- The low PRG-RAM window begins above every register, and so above the four that a read drives. -/
theorem no_register_of_le {a : CpuAddr} (h : 0x6000 ≤ a.toNat) : regIdx a = none ∧ isDriven a = false := by
  constructor
  · rw [regIdx_eq_none_iff]; omega
  · simp [isDriven, ← BitVec.toNat_inj]; omega

/-- A low PRG-RAM address lies above every register. -/
theorem no_register_ramWindow (off : BitVec 13) :
    regIdx (0b011#3 ++ off) = none ∧ isDriven (0b011#3 ++ off) = false :=
  no_register_of_le (by rw [toNat_append_eq]; exact Nat.le_add_right ..)

/-- A high address lies above every register. -/
theorem no_register_high (a : BitVec 15) : regIdx (0b1#1 ++ a) = none ∧ isDriven (0b1#1 ++ a) = false :=
  no_register_of_le (by rw [toNat_append_eq]; change 0x6000 ≤ 0x8000 + a.toNat; omega)

/-- A write at none of the rows with an address of their own goes by its top bits to a bank register or a memory window,
or is the unmapped one. -/
theorem decodeWrite_by_topBits {a : CpuAddr} (h : regIdx a = none ∨ 0x5114 ≤ a.toNat ∧ a.toNat ≤ 0x512B)
    (v : Byte) :
    decodeWrite a v =
      if a.extractLsb' 2 14 = 0x1445#14 then .bwPrgBank (a.extractLsb' 0 2) v
      else if a.extractLsb' 2 14 = 0x144A#14 then .bwChrBankBg (a.extractLsb' 0 2) v
      else if a.extractLsb' 3 13 = 0x0A24#13 then .bwChrBankSpr (a.extractLsb' 0 3) v
      else if a.extractLsb' 13 3 = 0b011#3 then .bwPrgRamLo (a.extractLsb' 0 13) v
      else if a.extractLsb' 15 1 = 0b1#1 then .bwHigh (a.extractLsb' 0 15) v
      else .bwUnmapped a v := by
  rw [regIdx_eq_none_iff] at h
  unfold decodeWrite
  iterate 28 rw [if_neg (by rw [← BitVec.toNat_inj, BitVec.toNat_ofNat]; omega)]

/-- A write where no register stands goes to a memory window, or is the unmapped one. -/
theorem decodeWrite_of_no_register {a : CpuAddr} (h : regIdx a = none) (v : Byte) :
    decodeWrite a v =
      if a.extractLsb' 13 3 = 0b011#3 then .bwPrgRamLo (a.extractLsb' 0 13) v
      else if a.extractLsb' 15 1 = 0b1#1 then .bwHigh (a.extractLsb' 0 15) v
      else .bwUnmapped a v := by
  rw [decodeWrite_by_topBits (.inl h)]
  rw [regIdx_eq_none_iff] at h
  iterate 3 rw [if_neg (by rw [field_eq_iff]; omega)]

/-- A read of no driven register goes to a memory window, or is the undriven one. -/
theorem decodeRead_of_not_driven {a : CpuAddr} (h : isDriven a = false) :
    decodeRead a =
      if a.extractLsb' 13 3 = 0b011#3 then .brPrgRamLo (a.extractLsb' 0 13)
      else if a.extractLsb' 15 1 = 0b1#1 then .brHigh (a.extractLsb' 0 15)
      else .brUndriven a := by
  simp only [isDriven, Bool.or_eq_false_iff, decide_eq_false_iff_not] at h
  simp [decodeRead, h]

/-- A low address outside the PRG-RAM window has the top bits of neither memory window. -/
theorem not_window_of_low {a : CpuAddr} (hlow : isLow a = true) (hram : isRamWindow a = false) :
    a.extractLsb' 13 3 ≠ 0b011#3 ∧ a.extractLsb' 15 1 ≠ 0b1#1 := by
  simp only [isLow, isRamWindow, decide_eq_true_eq, decide_eq_false_iff_not] at hlow hram
  rw [ne_eq, field_eq_iff, ne_eq, field_eq_iff]
  omega

/-! ### The bus dispatch of each family of rows -/

theorem decodeRead_ramWindow (off : BitVec 13) : decodeRead (0b011#3 ++ off) = .brPrgRamLo off := by
  rw [decodeRead_of_not_driven (no_register_ramWindow off).2, if_pos BitVec.extractLsb'_append_eq_left,
    BitVec.extractLsb'_append_eq_right]

theorem decodeWrite_ramWindow (off : BitVec 13) (v : Byte) :
    decodeWrite (0b011#3 ++ off) v = .bwPrgRamLo off v := by
  rw [decodeWrite_of_no_register (no_register_ramWindow off).1, if_pos BitVec.extractLsb'_append_eq_left,
    BitVec.extractLsb'_append_eq_right]

/-- A high address does not have the top bits of the low PRG-RAM window. -/
theorem high_ne_ramWindow (a : BitVec 15) : (0b1#1 ++ a).extractLsb' 13 3 ≠ 0b011#3 := by
  have h : (0b1#1 ++ a).toNat = 0x8000 + a.toNat := toNat_append_eq ..
  rw [ne_eq, field_eq_iff, h]
  omega

theorem decodeRead_high (a : BitVec 15) : decodeRead (0b1#1 ++ a) = .brHigh a := by
  rw [decodeRead_of_not_driven (no_register_high a).2, if_neg (high_ne_ramWindow a),
    if_pos BitVec.extractLsb'_append_eq_left, BitVec.extractLsb'_append_eq_right]

theorem decodeWrite_high (a : BitVec 15) (v : Byte) : decodeWrite (0b1#1 ++ a) v = .bwHigh a v := by
  rw [decodeWrite_of_no_register (no_register_high a).1, if_neg (high_ne_ramWindow a),
    if_pos BitVec.extractLsb'_append_eq_left, BitVec.extractLsb'_append_eq_right]

theorem decodeRead_undriven {a : CpuAddr} (h : (Instr.brUndriven a).wf = true) : decodeRead a = .brUndriven a := by
  simp only [Instr.wf, Bool.and_eq_true, Bool.not_eq_true'] at h
  obtain ⟨⟨hlow, hdriven⟩, hram⟩ := h
  obtain ⟨hnotRam, hnotHigh⟩ := not_window_of_low hlow hram
  rw [decodeRead_of_not_driven hdriven, if_neg hnotRam, if_neg hnotHigh]

theorem decodeWrite_unmapped {a : CpuAddr} {v : Byte} (h : (Instr.bwUnmapped a v).wf = true) :
    decodeWrite a v = .bwUnmapped a v := by
  simp only [Instr.wf, Bool.and_eq_true, Bool.not_eq_true', Option.isNone_iff_eq_none] at h
  obtain ⟨⟨hlow, hreg⟩, hram⟩ := h
  obtain ⟨hnotRam, hnotHigh⟩ := not_window_of_low hlow hram
  rw [decodeWrite_of_no_register hreg, if_neg hnotRam, if_neg hnotHigh]

theorem decodeWrite_prgBank (r : BitVec 2) (v : Byte) : decodeWrite (0x1445#14 ++ r) v = .bwPrgBank r v := by
  have h : (0x1445#14 ++ r).toNat = 0x5114 + r.toNat := toNat_append_eq ..
  rw [decodeWrite_by_topBits (.inr (by omega)), if_pos BitVec.extractLsb'_append_eq_left,
    BitVec.extractLsb'_append_eq_right]

theorem decodeWrite_chrBankBg (r : BitVec 2) (v : Byte) : decodeWrite (0x144A#14 ++ r) v = .bwChrBankBg r v := by
  have h : (0x144A#14 ++ r).toNat = 0x5128 + r.toNat := toNat_append_eq ..
  rw [decodeWrite_by_topBits (.inr (by omega)), if_neg (by rw [field_eq_iff]; omega),
    if_pos BitVec.extractLsb'_append_eq_left, BitVec.extractLsb'_append_eq_right]

theorem decodeWrite_chrBankSpr (r : BitVec 3) (v : Byte) : decodeWrite (0x0A24#13 ++ r) v = .bwChrBankSpr r v := by
  have h : (0x0A24#13 ++ r).toNat = 0x5120 + r.toNat := toNat_append_eq ..
  rw [decodeWrite_by_topBits (.inr (by omega)), if_neg (by rw [field_eq_iff]; omega),
    if_neg (by rw [field_eq_iff]; omega), if_pos BitVec.extractLsb'_append_eq_left,
    BitVec.extractLsb'_append_eq_right]

/-! ### Decoding what was encoded -/

@[simp] theorem decodeFields_read (a : CpuAddr) (cycle : Nat) :
    decodeFields ⟨0, 0, 0, a⟩ cycle = .ok (decodeRead a) := rfl

@[simp] theorem decodeFields_write (a : CpuAddr) (v : Byte) (cycle : Nat) :
    decodeFields ⟨1, 0, v, a⟩ cycle = .ok (decodeWrite a v) := rfl

theorem decodeFields_pr (a : CpuAddr) (cycle : Nat) :
    decodeFields ⟨2, 0, 0, a⟩ cycle =
      if a.extractLsb' 13 3 = 0#3 then .ok (.pr (a.extractLsb' 0 13)) else .error .addressOutsideRange := by
  simp [decodeFields]

theorem decodeFields_pw (a : CpuAddr) (v : Byte) (cycle : Nat) :
    decodeFields ⟨3, 0, v, a⟩ cycle =
      if a.extractLsb' 13 3 = 0#3 then .ok (.pw (a.extractLsb' 0 13) v) else .error .addressOutsideRange := by
  simp [decodeFields]

theorem decodeFields_sp (a : CpuAddr) (cycle : Nat) :
    decodeFields ⟨5, 0, 0, a⟩ cycle =
      if a.extractLsb' 14 2 = 0#2 then .ok (.sp cycle (a.extractLsb' 0 14)) else .error .mustBeZero := by
  simp [decodeFields]

theorem decodeFields_mkMask (d : Byte) (cycle : Nat) :
    decodeFields ⟨8, 0, d, 0⟩ cycle =
      if d.extractLsb' 3 5 = 0#5 then .ok (.mkMask (d.extractLsb' 0 3)) else .error .mustBeZero := by
  simp [decodeFields]

/-- The fields of a well-formed operation decode to it. -/
theorem decodeFields_encodeFields {i : Instr} (h : i.wf = true) :
    decodeFields (encodeFields i) (sideOf i) = .ok i := by
  cases i with
  | brPrgRamLo off => rw [encodeFields, decodeFields_read, decodeRead_ramWindow]
  | brHigh a => rw [encodeFields, decodeFields_read, decodeRead_high]
  | brUndriven a => rw [encodeFields, decodeFields_read, decodeRead_undriven h]
  | bwPrgRamLo off v => rw [encodeFields, decodeFields_write, decodeWrite_ramWindow]
  | bwHigh a v => rw [encodeFields, decodeFields_write, decodeWrite_high]
  | bwUnmapped a v => rw [encodeFields, decodeFields_write, decodeWrite_unmapped h]
  | bwPrgBank r v => rw [encodeFields, decodeFields_write, decodeWrite_prgBank]
  | bwChrBankBg r v => rw [encodeFields, decodeFields_write, decodeWrite_chrBankBg]
  | bwChrBankSpr r v => rw [encodeFields, decodeFields_write, decodeWrite_chrBankSpr]
  | bwSqCtrl c v | bwSqSweep c v | bwSqTlo c v | bwSqLen c v | bwFill c v | bwSplit c v => cases c <;> rfl
  | pr a =>
    rw [encodeFields, decodeFields_pr, if_pos BitVec.extractLsb'_append_eq_left, BitVec.extractLsb'_append_eq_right]
  | pw a v =>
    rw [encodeFields, decodeFields_pw, if_pos BitVec.extractLsb'_append_eq_left, BitVec.extractLsb'_append_eq_right]
  | sp cycle a =>
    rw [encodeFields, sideOf, decodeFields_sp, if_pos BitVec.extractLsb'_append_eq_left,
      BitVec.extractLsb'_append_eq_right]
  | rs soft => cases soft <;> rfl
  | mkMask mask =>
    rw [encodeFields, decodeFields_mkMask, if_pos BitVec.extractLsb'_append_eq_left, BitVec.extractLsb'_append_eq_right]
  | _ => rfl

/-- The word and the side argument of a well-formed operation decode to it. -/
theorem decode_encode {i : Instr} (h : i.wf = true) : decode (encode i) (sideOf i) = .ok i := by
  rw [decode, encode, fieldsOf_packFields, decodeFields_encodeFields h]

end Sys2Proof.Machine
end

section
/-!
What every operation does to the register bank, the multiplier and the waiting calls, and the two statements that rest
on it (spec/10_state.md R34, R48).
-/
namespace Sys2Proof.Machine

open Sys2Proof.Claims

/-! ### The register bank after a bus write (spec/10_state.md R33, R34) -/

/-- The spec's list of addresses is that of the register map. -/
theorem registerAddresses_eq_map :
    registerAddresses = (List.finRange 44).map fun k => BitVec.ofNat 16 (regAddress k.val) := by decide

theorem idxOf_registerAddresses : ∀ k : Fin 44,
    registerAddresses.idxOf (BitVec.ofNat 16 (regAddress k.val)) = k.val := by decide

theorem not_mem_registerAddresses {a : CpuAddr} (h : regIdx a = none) : a ∉ registerAddresses := by
  rw [registerAddresses_eq_map]
  intro hm
  obtain ⟨k, -, rfl⟩ := List.mem_map.1 hm
  rw [regIdx_regAddress] at h
  cases h

theorem address_prgBank : ∀ r : BitVec 2,
    (0x1445#14 ++ r : CpuAddr) = BitVec.ofNat 16 (regAddress (rPrgBank r).val) := by decide

theorem address_chrBankBg : ∀ r : BitVec 2,
    (0x144A#14 ++ r : CpuAddr) = BitVec.ofNat 16 (regAddress (rChrBank ⟨8 + r.toNat, by omega⟩).val) := by decide

theorem address_chrBankSpr : ∀ r : BitVec 3,
    (0x0A24#13 ++ r : CpuAddr) = BitVec.ofNat 16 (regAddress (rChrBank ⟨r.toNat, by omega⟩).val) := by decide

/-- A bus write to the address of register k stores its byte at k. -/
theorem rawAfter_registerWrite {i : Instr} {v : Byte} (k : Fin 44)
    (h : encodeFields i = ⟨1, 0, v, BitVec.ofNat 16 (regAddress k.val)⟩) (r : Vector Byte 44) :
    rawAfter r i = r.set k.val v := by
  have hb : busWrite i = some (BitVec.ofNat 16 (regAddress k.val), v) := by simp [busWrite, h]
  cases i with
  | rs soft => cases hb
  | _ => simp [rawAfter, hb, idxOf_registerAddresses]

/-- A bus write where no register stands leaves the bank. -/
theorem rawAfter_no_register {i : Instr} {a : CpuAddr} {v : Byte} (h : encodeFields i = ⟨1, 0, v, a⟩)
    (ha : regIdx a = none) (r : Vector Byte 44) : rawAfter r i = r := by
  have hb : busWrite i = some (a, v) := by simp [busWrite, h]
  have hlen : registerAddresses.idxOf a = 44 := List.idxOf_eq_length (not_mem_registerAddresses ha)
  cases i with
  | rs soft => cases hb
  | _ => simp [rawAfter, hb, hlen]

/-! ### What an operation does to the registers, the multiplier and the waiting calls -/

/-- What one operation leaves in operand A, operand B and the product (spec/45_multiplier.md R360, R361; a reset
spec/70_reset_and_hazards.md R430). -/
def multiplierAfter (m : Byte × Byte × BitVec 16) : Instr → Byte × Byte × BitVec 16
  | .bwMulA v => (v, m.2.1, product8 v m.2.1)
  | .bwMulB v => (m.1, v, product8 m.1 v)
  | .rs _ => (0, 0, 0)
  | _ => m

/-- An operation's part in the waiting calls, the multiplier and, where it is well-formed, the register bank. -/
structure RegisterEffect (i : Instr) (s t : State) : Prop where
  calls : t.calls = s.calls
  multiplier : (t.mulA, t.mulB, t.product) = multiplierAfter (s.mulA, s.mulB, s.product) i
  reg : i.wf = true → t.reg = rawAfter s.reg i

/-- The two states have the same waiting calls, multiplier and register bank. -/
structure SameRegisters (s t : State) : Prop where
  calls : t.calls = s.calls
  multiplier : (t.mulA, t.mulB, t.product) = (s.mulA, s.mulB, s.product)
  reg : t.reg = s.reg

theorem RegisterEffect.of_same {i : Instr} {s t : State} (h : SameRegisters s t)
    (hm : ∀ m, multiplierAfter m i = m) (hr : i.wf = true → ∀ r, rawAfter r i = r) : RegisterEffect i s t :=
  ⟨h.calls, h.multiplier.trans (hm _).symm, fun hwf => h.reg.trans (hr hwf _).symm⟩

/-- A read through a memory window changes no register. -/
theorem completeRead_same {b : Option Byte} {s t : State} (h : completeRead b (startCall s) = .next t) :
    SameRegisters s t := by
  obtain ⟨v, -, rfl⟩ := (completeRead_eq_next ..).1 h
  exact ⟨rfl, rfl, rfl⟩

theorem completeDraw_same {p : Params} {s t : State} (h : completeDraw p (startCall s) = .next t) :
    SameRegisters s t := by
  cases h
  exact ⟨rfl, rfl, rfl⟩

theorem execBwPrgRamLo_same {off : BitVec 13} {v : Byte} {s t : State} (h : execBwPrgRamLo off v s = .next t) :
    SameRegisters s t := by
  obtain ⟨u, hu, rfl⟩ := (completeWrite_eq_next ..).1 h
  obtain rfl | ⟨-, rfl⟩ := lowRamWrite_eq_some hu
  · exact ⟨rfl, rfl, rfl⟩
  · exact ⟨rfl, rfl, rfl⟩

theorem execBwHigh_same {a : BitVec 15} {v : Byte} {s t : State} (h : execBwHigh a v s = .next t) :
    SameRegisters s t := by
  obtain ⟨u, hu, rfl⟩ := (completeWrite_eq_next ..).1 h
  obtain rfl | ⟨-, rfl⟩ := prgWindowWrite_eq_some hu
  · exact ⟨rfl, rfl, rfl⟩
  · exact ⟨rfl, rfl, rfl⟩

theorem execBrUndriven_same {addr : CpuAddr} {s t : State} (h : execBrUndriven addr s = .next t) :
    SameRegisters s t := by
  unfold execBrUndriven at h
  split at h
  · cases h
  · exact completeDraw_same h

theorem execBwUnmapped_same {addr : CpuAddr} {v : Byte} {s t : State} (h : execBwUnmapped addr v s = .next t) :
    SameRegisters s t := by
  unfold execBwUnmapped at h
  split at h
  · cases h
  · cases h; exact ⟨rfl, rfl, rfl⟩

theorem execPr_same {a : PatternAddr} {s t : State} (h : execPr a s = .next t) : SameRegisters s t := by
  unfold execPr at h
  split at h
  · exact completeDraw_same h
  · cases h; exact ⟨rfl, rfl, rfl⟩

theorem execPw_same {a : PatternAddr} {v : Byte} {s t : State} (h : execPw a v s = .next t) : SameRegisters s t := by
  cases h
  obtain h | h := chrWindowWrite_eq Config.params a v (startCall s)
  · rw [h]; exact ⟨rfl, rfl, rfl⟩
  · rw [h]; exact ⟨rfl, rfl, rfl⟩

theorem execSc_same {s t : State} (h : execSc s = .next t) : SameRegisters s t := by
  cases h
  rw [syncCpu, clocks_eq]
  exact ⟨rfl, rfl, rfl⟩

theorem execSp_same {cycle : Nat} {a : BitVec 14} {s t : State} (h : execSp cycle a s = .next t) :
    SameRegisters s t := by
  cases h
  rw [syncPpu_eq]
  exact ⟨rfl, rfl, rfl⟩

/-- Every operation that answers has the effect R34 and R48 need: the reads, the memory writes and the clocks change no
register, and every other write stores its byte at its register's index. -/
theorem exec_registerEffect {i : Instr} {s t : State} (h : exec i s = .next t) : RegisterEffect i s t := by
  cases i with
  | brPrgRamLo off | brHigh a => exact .of_same (completeRead_same h) (fun _ => rfl) fun _ _ => rfl
  | brUndriven addr => exact .of_same (execBrUndriven_same h) (fun _ => rfl) fun _ _ => rfl
  | pr a => exact .of_same (execPr_same h) (fun _ => rfl) fun _ _ => rfl
  | pw a v => exact .of_same (execPw_same h) (fun _ => rfl) fun _ _ => rfl
  | sc => exact .of_same (execSc_same h) (fun _ => rfl) fun _ _ => rfl
  | sp cycle a => exact .of_same (execSp_same (a := a) h) (fun _ => rfl) fun _ _ => rfl
  | bwPrgRamLo off v =>
    exact .of_same (execBwPrgRamLo_same h) (fun _ => rfl) fun _ =>
      rawAfter_no_register rfl (no_register_ramWindow off).1
  | bwHigh a v =>
    exact .of_same (execBwHigh_same h) (fun _ => rfl) fun _ => rawAfter_no_register rfl (no_register_high a).1
  | bwUnmapped addr v =>
    refine .of_same (execBwUnmapped_same (v := v) h) (fun _ => rfl) fun hwf => rawAfter_no_register rfl ?_
    simp only [Instr.wf, Bool.and_eq_true, Option.isNone_iff_eq_none] at hwf
    obtain ⟨⟨-, hreg⟩, -⟩ := hwf
    exact hreg
  | brSndStatus | brIrqStatus | brMulLo | brMulHi | am | mkMask _ | dr _ | rs soft =>
    cases h; exact ⟨rfl, rfl, fun _ => rfl⟩
  | bwSqCtrl c v | bwSqSweep c v | bwSqTlo c v | bwSqLen c v | bwFill c v | bwSplit c v =>
    cases c <;> cases h <;> exact ⟨rfl, rfl, fun _ => (rawAfter_registerWrite _ rfl _).symm⟩
  | bwPrgBank r v =>
    cases h
    exact ⟨rfl, rfl, fun _ => (rawAfter_registerWrite _ (congrArg _ (address_prgBank r)) _).symm⟩
  | bwChrBankBg r v =>
    cases h
    rw [writeChrBank_eq]
    exact ⟨rfl, rfl, fun _ => (rawAfter_registerWrite _ (congrArg _ (address_chrBankBg r)) _).symm⟩
  | bwChrBankSpr r v =>
    cases h
    rw [writeChrBank_eq]
    exact ⟨rfl, rfl, fun _ => (rawAfter_registerWrite _ (congrArg _ (address_chrBankSpr r)) _).symm⟩
  | _ =>
    cases h
    exact ⟨rfl, rfl, fun _ => (rawAfter_registerWrite _ rfl _).symm⟩

/-! ### Runs -/

/-- A run of one step more is that step and then the run. -/
theorem run_succ_eq_next (M : Host.Core) (k : Nat) (s t : M.State) :
    M.run (k + 1) s = .next t ↔ ∃ u, M.step s = .next u ∧ M.run k u = .next t := by
  rw [Host.Core.run]
  cases M.step s <;> simp

/-- A step with a well-formed operation's call waiting executes it. -/
theorem step_asCall {i : Instr} {rest : List Call} {s : State} (hwf : i.wf = true) (h : s.calls = asCall i :: rest) :
    step s = exec i { s with calls := rest } := by
  simp only [step, h, asCall, decode_encode hwf]

/-- Settles O7, by induction on the operations: each step leaves what `rawAfter` says in the bank, and the calls of the
operations that remain. -/
theorem rawRegistersHoldTheLastWrite : Obligations.RawRegistersHoldTheLastWrite := by
  intro is
  induction is with
  | nil =>
    intro s t _ _ h
    cases h
    rfl
  | cons i rest ih =>
    intro s t hwf hcalls h
    obtain ⟨hi, hrest⟩ := List.forall_mem_cons.1 hwf
    obtain ⟨u, hstep, hrun⟩ := (run_succ_eq_next ..).1 h
    have hexec : exec i { s with calls := rest.map asCall } = .next u := (step_asCall hi hcalls).symm.trans hstep
    have heffect := exec_registerEffect hexec
    rw [List.foldl_cons, ih u t hrest heffect.calls hrun, heffect.reg hi]

/-! ### The product -/

/-- Whatever an operation leaves in the multiplier, the product stays that of the operands. -/
theorem multiplierAfter_product {m : Byte × Byte × BitVec 16} (h : m.2.2.toNat = m.1.toNat * m.2.1.toNat)
    (i : Instr) :
    (multiplierAfter m i).2.2.toNat = (multiplierAfter m i).1.toNat * (multiplierAfter m i).2.1.toNat := by
  cases i with
  | bwMulA v | bwMulB v => exact product8_toNat ..
  | rs soft => rfl
  | _ => exact h

theorem exec_productHolds {i : Instr} {s t : State} (hs : ProductHolds s) (h : exec i s = .next t) :
    ProductHolds t := by
  have hm := multiplierAfter_product (m := (s.mulA, s.mulB, s.product)) hs i
  rwa [← (exec_registerEffect h).multiplier] at hm

/-- Settles O52: only the two operand writes and a reset touch the multiplier, and each leaves the product of the
operands it leaves. -/
theorem productStaysThatOfTheOperands : Obligations.ProductStaysThatOfTheOperands :=
  ⟨⟨rfl, rfl, rfl⟩, fun _ _ hs h =>
    step_keeps (P := ProductHolds) (fun _ _ hp => hp) (fun _ _ _ => exec_productHolds) hs h⟩

end Sys2Proof.Machine
end

section
/-!
The PRG windows, the register writes and the nametable map of the bank-switch unit (spec/40_bank_switch.md).
-/
namespace Sys2Proof.Machine

open Sys2Proof.Claims

/-! ### The PRG windows in the statements' arithmetic (spec/40_bank_switch.md R143, R145) -/

theorem bitVec_two_cases : ∀ m : BitVec 2, m = 0#2 ∨ m = 1#2 ∨ m = 2#2 ∨ m = 3#2 := by decide

section
variable {al : Byte} {size : Nat} (hal : ∀ v k, bankPage v al k = v.toNat % 128 / size * size + k)
include hal

/-- A ROM window whose alignment mask rounds the page down to a multiple of `size`. -/
theorem romWin_eq_romWindow (v : Byte) (k : Nat) : romWin Config.params v al k = romWindow v size k := by
  rw [romWin, hal]; rfl

/-- A window of either memory whose alignment mask rounds the page down to a multiple of `size`. -/
theorem selWin_eq_eitherWindow (v : Byte) (k : Nat) : selWin Config.params v al k = eitherWindow v size k := by
  simp only [selWin, hal, topBit_eq, decide_eq_true_eq]; rfl

end

/-- The 8 KB mask drops nothing: the page is a multiple of 1. -/
theorem bankPage_8k_aligned (v : Byte) (k : Nat) : bankPage v 0x7F#8 k = v.toNat % 128 / 1 * 1 + k := by
  rw [bankPage_8k, Nat.div_one, Nat.mul_one]

theorem romWin_8k : ∀ v k, romWin Config.params v 0x7F k = romWindow v 1 k := romWin_eq_romWindow bankPage_8k_aligned
theorem romWin_16k : ∀ v k, romWin Config.params v 0x7E k = romWindow v 2 k := romWin_eq_romWindow bankPage_16k
theorem romWin_32k : ∀ v k, romWin Config.params v 0x7C k = romWindow v 4 k := romWin_eq_romWindow bankPage_32k
theorem selWin_8k : ∀ v k, selWin Config.params v 0x7F k = eitherWindow v 1 k :=
  selWin_eq_eitherWindow bankPage_8k_aligned
theorem selWin_16k : ∀ v k, selWin Config.params v 0x7E k = eitherWindow v 2 k := selWin_eq_eitherWindow bankPage_16k

/-- `DerivePRG` computes the windows of the scheme its mode selects. -/
theorem derivePrg_eq_schemeWindows (mode : BitVec 2) (r4 r5 r6 r7 : Byte) :
    derivePrg Config.params mode r4 r5 r6 r7 = schemeWindows mode.toNat r4 r5 r6 r7 := by
  simp only [derivePrg, romWin_8k, romWin_16k, romWin_32k, selWin_8k, selWin_16k]
  obtain rfl | rfl | rfl | rfl := bitVec_two_cases mode <;> rfl

theorem rederivePrg_eq_schemeWindows (s : State) :
    rederivePrg Config.params s =
      { s with prgWin := schemeWindows s.prgMode.toNat s.reg[20] s.reg[21] s.reg[22] s.reg[23] } := by
  rw [rederivePrg, derivedPrg, derivePrg_eq_schemeWindows]; rfl

/-! ### The PRG register writes (spec/40_bank_switch.md R140 to R142) -/

theorem exec_bwPrgMode (v : Byte) (s : State) :
    exec (.bwPrgMode v) s =
      .next (rederivePrg Config.params { stored 11 v s with prgMode := lowField v }) := rfl

theorem exec_bwPrgBank (r : BitVec 2) (v : Byte) (s : State) :
    exec (.bwPrgBank r v) s = .next (rederivePrg Config.params (stored (rPrgBank r) v s)) := rfl

/-- Settles O12: `$5100` is none of the four bank registers, so the windows are those of the bytes stored before. -/
theorem prgModeWriteSelectsTheScheme : Obligations.PrgModeWriteSelectsTheScheme := by
  intro v s
  rw [exec_bwPrgMode, rederivePrg_eq_schemeWindows]
  simp [stored, lowField_eq]

/-- Settles O13: of the four bank bytes the windows are computed from, the written register's is the new one. -/
theorem prgBankWriteDerivesTheWindows : Obligations.PrgBankWriteDerivesTheWindows := by
  intro r v s
  rw [exec_bwPrgBank, rederivePrg_eq_schemeWindows]
  obtain rfl | rfl | rfl | rfl := bitVec_two_cases r <;> simp [stored, rPrgBank]

/-! ### The low RAM page, the high CHR bits and the nametable map (spec/40_bank_switch.md R142, R162, R170) -/

theorem exec_bwChrHigh (v : Byte) (s : State) :
    exec (.bwChrHigh v) s = .next { stored 36 v s with chrHigh := lowField v } := rfl

theorem exec_bwNtMap (v : Byte) (s : State) :
    exec (.bwNtMap v) s = .next
      { stored 16 v s with
        extCalls := [.mirrorConfigure (quadrant v 0) (quadrant v 1) (quadrant v 2) (quadrant v 3)] } := rfl

/-- Settles O16: each write sets its register and the one field beside it. -/
theorem lowRamPageAndChrHighWrites : Obligations.LowRamPageAndChrHighWrites := by
  intro v s
  constructor
  · rfl
  · rw [exec_bwChrHigh, lowField_eq]

/-- Settles O31: quadrant k of the byte is its quotient by `4 ^ k`, cut to two bits. -/
theorem nametableWriteConfiguresTheMirrors : Obligations.NametableWriteConfiguresTheMirrors := by
  intro v s
  rw [exec_bwNtMap]
  simp [quadrant_eq]

end Sys2Proof.Machine
end

section
/-!
The accesses through the PRG windows and the pattern windows (spec/40_bank_switch.md R150, R156 to R159).
-/
namespace Sys2Proof.Machine

open Sys2Proof.Claims

/-! ### PRG window reads (spec/40_bank_switch.md R150, spec/60_exceptions.md R402) -/

theorem prgWindowOf_eq (s : State) (a : BitVec 15) : prgWindowOf s a = s.prgWin[a.toNat / 8192]'(by omega) := by
  simp only [prgWindowOf, windowOf_toNat]

theorem prgOffset_eq (s : State) (a : BitVec 15) :
    prgOffset s a = (prgWindowOf s a).page * 8192 + a.toNat % 8192 := by rw [prgOffset, windowOffset_toNat]

theorem exec_brHigh (a : BitVec 15) (s : State) :
    exec (.brHigh a) s = completeRead (prgWindowRead Config.params s a) (startCall s) := rfl

theorem prgWindowRead_rom {p : Params} {s : State} {a : BitVec 15} (hk : (prgWindowOf s a).kind = .rom) :
    prgWindowRead p s a =
      if (prgWindowOf s a).page < p.prgRomPages then some (p.prgRom (prgOffset s a)) else none := by
  rw [← prgOffset_page]
  simp only [prgWindowRead, hk, romRead]

theorem prgWindowRead_ram {p : Params} {s : State} {a : BitVec 15} (hk : (prgWindowOf s a).kind = .ram) :
    prgWindowRead p s a =
      if (prgWindowOf s a).page < p.prgRamPages
      then some (Memory.read p.prgRamPowerOn s.prgRam (prgOffset s a)) else none := by
  rw [← prgOffset_page]
  simp only [prgWindowRead, hk, ramRead]

/-- A read through a window whose page its memory does not have finds no byte. -/
theorem prgWindowRead_of_page_out {s : State} {a : BitVec 15}
    (h : pagesOf Config.params (prgWindowOf s a).kind ≤ (prgWindowOf s a).page) :
    prgWindowRead Config.params s a = none := by
  cases hk : (prgWindowOf s a).kind with
  | rom => rw [hk] at h; rw [prgWindowRead_rom hk]; exact if_neg (Nat.not_lt.2 h)
  | ram => rw [hk] at h; rw [prgWindowRead_ram hk]; exact if_neg (Nat.not_lt.2 h)

/-- Settles O18: the window's kind selects the memory, and its page alone decides whether the memory has the byte. -/
theorem highReadDereferencesItsWindow : Obligations.HighReadDereferencesItsWindow := by
  intro a s w hw
  obtain rfl : prgWindowOf s a = w := (prgWindowOf_eq s a).trans hw
  rw [exec_brHigh, ← prgOffset_eq]
  refine ⟨fun hk hp => ?_, fun hk hp => ?_, fun hp => ?_⟩
  · rw [prgWindowRead_rom hk, if_pos hp]; rfl
  · rw [prgWindowRead_ram hk, if_pos hp]; rfl
  · rw [prgWindowRead_of_page_out hp]; rfl

/-! ### Pattern windows (spec/40_bank_switch.md R156 to R159) -/

theorem splitOrExtended_iff (s : State) : splitOrExtended s = true ↔ splitActive s := by
  simp [splitOrExtended, splitActive, topBit_eq, lowField_eq, getReg, ← BitVec.toNat_inj]

theorem inSpriteColumns_iff (s : State) : inSpriteColumns Config.params s = true ↔ spriteFetch s := decide_eq_true_iff

/-- The slot a pattern address selects, by its set. -/
theorem chrSlotOf_of_sprite {s : State} (h : spriteFetch s) (a : PatternAddr) :
    chrSlotOf Config.params s a = s.chrSlot[a.toNat / 1024]'(by omega) := by
  simp only [chrSlotOf, (inSpriteColumns_iff s).2 h, if_true, spriteSlot_toNat]

theorem chrSlotOf_of_not_sprite {s : State} (h : ¬ spriteFetch s) (a : PatternAddr) :
    chrSlotOf Config.params s a = s.chrSlot[8 + a.toNat / 1024 % 4]'(by omega) := by
  simp only [chrSlotOf, if_neg (mt (inSpriteColumns_iff s).1 h), backgroundSlot_toNat]

/-- The offset a pattern address names is the one the model computes. -/
theorem patternByteOffset_iff (s : State) (a : PatternAddr) (o : Nat) :
    patternByteOffset s a o ↔ o = chrOffset Config.params s a := by
  by_cases h : spriteFetch s
  · simp [patternByteOffset, chrOffset, h, chrSlotOf_of_sprite]
  · simp [patternByteOffset, chrOffset, h, chrSlotOf_of_not_sprite]

/-- Settles O29: the offset named is `chrOffset`, which lies in the CHR memory in every state; the read answers by the
split alone. -/
theorem patternReadFollowsItsSlot : Obligations.PatternReadFollowsItsSlot := by
  intro a s o ho
  obtain rfl := (patternByteOffset_iff ..).1 ho
  refine ⟨chrOffset_lt .., fun h => ?_, fun h => ?_⟩
  · exact if_pos ((splitOrExtended_iff s).2 h)
  · exact if_neg (mt (splitOrExtended_iff s).1 h)

theorem chrWindowWrite_of_ram {s : State} (hw : Config.params.chrWritable = true) (h : ¬ splitActive s)
    (a : PatternAddr) (v : Byte) :
    chrWindowWrite Config.params a v s = chrMemWrite Config.params (chrOffset Config.params s a) v s := by
  rw [chrWindowWrite, if_neg (by simp [hw]), if_neg (mt (splitOrExtended_iff s).1 h)]

/-- A CHR write is dropped where the memory is ROM or the split is active. -/
theorem chrWindowWrite_of_dropped {s : State} (h : ¬ (Config.params.chrWritable = true ∧ ¬ splitActive s))
    (a : PatternAddr) (v : Byte) : chrWindowWrite Config.params a v s = s := by
  by_cases hw : Config.params.chrWritable = true
  · have hsplit : splitActive s := not_not.1 fun hn => h ⟨hw, hn⟩
    rw [chrWindowWrite, if_neg (by simp [hw]), if_pos ((splitOrExtended_iff s).2 hsplit)]
  · rw [chrWindowWrite, if_pos (by simp [hw])]

theorem exec_pw (a : PatternAddr) (v : Byte) (s : State) :
    exec (.pw a v) s = .next { chrWindowWrite Config.params a v (startCall s) with reply := .nothing } := rfl

/-- A byte of CHR RAM after a write to it. -/
theorem chrByte_chrMemWrite (hw : Config.params.chrWritable = true) (off : Nat) (v : Byte) (s : State) (x : Nat) :
    chrByte (chrMemWrite Config.params off v s) x = if x = off then v else chrByte s x := by
  simp only [chrByte, if_pos hw]
  exact Memory.read_write ..

/-- Settles O30: a write that is not dropped writes the byte at `chrOffset` into the CHR memory. -/
theorem patternWriteReachesChrRamOnly : Obligations.PatternWriteReachesChrRamOnly := by
  intro a v s
  refine ⟨(patternByteOffset_iff ..).2 rfl, fun h => ?_, fun hw h => ?_⟩
  · rw [exec_pw, chrWindowWrite_of_dropped (s := startCall s) h]; rfl
  · rw [exec_pw, chrWindowWrite_of_ram (s := startCall s) hw h]
    exact ⟨_, rfl, rfl, chrByte_chrMemWrite hw _ v s⟩

end Sys2Proof.Machine
end

section
/-!
The CHR slots: which register drives which, and the writes that set them (spec/40_bank_switch.md R155, R160 to R164).
-/
namespace Sys2Proof.Machine

open Sys2Proof.Claims

/-! ### The slots a register drives (spec/40_bank_switch.md R155, R163, R164) -/

/-- A register is addressable in a mode where it drives a slot. -/
theorem chrAddressable_iff_drives : ∀ (m : BitVec 2) (r : Fin 12),
    chrAddressable m r = true ↔ ∃ j, chrDriver m.toNat j = r := by decide

/-- The `n` slots from `base` on take the pages from `page` on. -/
def fillSlots (base page : Nat) : (n : Nat) → base + n ≤ 12 → Vector Nat 12 → Vector Nat 12
  | 0, _, slots => slots
  | n + 1, h, slots => (fillSlots base page n (by omega) slots).set (base + n) (page + n)

theorem fillSlots_getElem (base page n : Nat) (h : base + n ≤ 12) (slots : Vector Nat 12) (j : Fin 12) :
    (fillSlots base page n h slots)[j.val] =
      if base ≤ j.val ∧ j.val < base + n then page + (j.val - base) else slots[j.val] := by
  induction n with
  | zero => rw [fillSlots, if_neg (by omega)]
  | succ n ih =>
    rw [fillSlots, Vector.getElem_set, ih]
    split_ifs <;> omega

/-! `ApplyCHR` fills the run of slots of its register. -/

theorem applyChr_8k_sprite (b : Nat) : applyChr 0#2 7 b = fillSlots 0 (b <<< 3) 8 (by decide) := rfl

theorem applyChr_8k_background (b : Nat) : applyChr 0#2 11 b = fillSlots 8 (b <<< 3) 4 (by decide) := rfl

theorem applyChr_4k (r : Fin 12) (b : Nat) : applyChr 1#2 r b = fillSlots (r.val - 3) (b <<< 2) 4 (by omega) := rfl

theorem applyChr_2k {r : Fin 12} (hr : 1 ≤ r.val) (b : Nat) :
    applyChr 2#2 r b = fillSlots (r.val - 1) (b <<< 1) 2 (by omega) := by
  ext1 slots
  simp [applyChr, fillSlots, Nat.sub_add_cancel hr]

theorem applyChr_1k (r : Fin 12) (b : Nat) : applyChr 3#2 r b = fillSlots r.val b 1 (by omega) := rfl

/-- `ApplyCHR` sets the slots its register drives to their pages and leaves every other slot. -/
theorem applyChr_getElem {m : BitVec 2} {r : Fin 12} (h : chrAddressable m r = true) (b : Nat) (slots : Vector Nat 12)
    (j : Fin 12) :
    (applyChr m r b slots)[j.val] = if chrDriver m.toNat j = r then slotValue m.toNat b j else slots[j.val] := by
  obtain rfl | rfl | rfl | rfl := bitVec_two_cases m
  · obtain rfl | rfl : r = 7 ∨ r = 11 := by simpa [chrAddressable] using h
    · rw [applyChr_8k_sprite, fillSlots_getElem]
      grind [chrDriver, slotValue, chrPlace, Nat.shiftLeft_eq]
    · rw [applyChr_8k_background, fillSlots_getElem]
      grind [chrDriver, slotValue, chrPlace, Nat.shiftLeft_eq]
  · have hr : r.val % 4 = 3 := by revert r; decide
    rw [applyChr_4k, fillSlots_getElem]
    grind [chrDriver, slotValue, chrPlace, Nat.shiftLeft_eq]
  · have hr : r.val % 2 = 1 := by simpa [chrAddressable] using h
    rw [applyChr_2k (by omega), fillSlots_getElem]
    grind [chrDriver, slotValue, chrPlace, Nat.shiftLeft_eq]
  · rw [applyChr_1k, fillSlots_getElem]
    grind [chrDriver, slotValue, chrPlace]

/-- The slots after one bank value is applied, where its register is addressable. -/
def chrApplied (m : BitVec 2) (r : Fin 12) (b : Nat) (slots : Vector Nat 12) : Vector Nat 12 :=
  if chrAddressable m r then applyChr m r b slots else slots

theorem chrApplied_getElem (m : BitVec 2) (r : Fin 12) (b : Nat) (slots : Vector Nat 12) (j : Fin 12) :
    (chrApplied m r b slots)[j.val] = if chrDriver m.toNat j = r then slotValue m.toNat b j else slots[j.val] := by
  unfold chrApplied
  by_cases h : chrAddressable m r = true
  · rw [if_pos h, applyChr_getElem h]
  · have hr : chrDriver m.toNat j ≠ r := fun hj => h ((chrAddressable_iff_drives m r).2 ⟨j, hj⟩)
    rw [if_neg h, if_neg hr]

/-- Bank values applied one register after another: a slot holds the page of its driver's value, where there is one. -/
theorem foldl_chrApplied_getElem (m : BitVec 2) (bank : Fin 12 → Nat) (rs : List (Fin 12)) (slots : Vector Nat 12)
    (j : Fin 12) :
    (rs.foldl (fun slots r => chrApplied m r (bank r) slots) slots)[j.val] =
      if chrDriver m.toNat j ∈ rs then slotValue m.toNat (bank (chrDriver m.toNat j)) j else slots[j.val] := by
  induction rs generalizing slots with
  | nil => simp
  | cons r rest ih =>
    rw [List.foldl_cons, ih, chrApplied_getElem]
    by_cases hrest : chrDriver m.toNat j ∈ rest
    · simp [hrest]
    · by_cases hr : chrDriver m.toNat j = r
      · simp [hr]
      · simp [hrest, hr]

/-- `DeriveCHR` sets every slot from the stored bank value of its driver. -/
theorem derivedChr_getElem (s : State) (j : Fin 12) :
    (derivedChr s)[j.val] = slotValue s.chrMode.toNat (storedBank s (chrDriver s.chrMode.toNat j)) j := by
  have hmem : ∀ r : Fin 12, r ∈ chrRegisters := by decide
  exact (foldl_chrApplied_getElem s.chrMode (chrBankValue s) chrRegisters s.chrSlot j).trans (if_pos (hmem _))

/-! ### The two writes (spec/40_bank_switch.md R160, R161) -/

theorem exec_bwChrMode (v : Byte) (s : State) :
    exec (.bwChrMode v) s =
      .next (chrModeWritten Config.params { stored 12 v s with chrMode := lowField v }) := rfl

/-- `$5101` is none of the bank registers: a write to it leaves every stored bank value. -/
theorem storedBank_stored_chrMode (v : Byte) (m : BitVec 2) (s : State) (r : Fin 12) :
    storedBank { stored 12 v s with chrMode := m } r = storedBank s r := by
  have hreg : (s.reg.set 12 v)[24 + r.val] = s.reg[24 + r.val] := Vector.getElem_set_ne _ _ (by omega)
  exact congrArg (fun b : Byte => s.chrHi[r.val].toNat * 256 + b.toNat) hreg

/-- Settles O25: the slots are the derived ones of the new mode, from the bank values stored before. -/
theorem chrModeWriteRederivesTheSlots : Obligations.ChrModeWriteRederivesTheSlots := by
  intro v s
  have hmode : v.toNat % 4 = (lowField v).toNat := by rw [lowField_eq, BitVec.toNat_ofNat]
  rw [exec_bwChrMode, hmode, ← lowField_eq]
  refine ⟨_, rfl, rfl, fun i => ?_⟩
  unfold chrModeWritten
  split
  · rw [derivedChr_getElem, storedBank_stored_chrMode]
  · rfl

/-- Both CHR bank writes write their register of the twelve. -/
theorem exec_chrBankWrite {v : Byte} {r : Fin 12} {i : Instr}
    (h : (∃ k : BitVec 3, i = .bwChrBankSpr k v ∧ r.val = k.toNat) ∨
      (∃ k : BitVec 2, i = .bwChrBankBg k v ∧ r.val = 8 + k.toNat)) (s : State) :
    exec i s = .next { writeChrBank r v (startCall s) with reply := .nothing } := by
  obtain ⟨n, hn⟩ := r
  obtain ⟨k, rfl, rfl⟩ | ⟨k, rfl, rfl⟩ := h <;> rfl

/-- Settles O26: a bank write applies the one bank value it forms. -/
theorem chrBankWriteSetsItsSlots : Obligations.ChrBankWriteSetsItsSlots := by
  intro v s r i hi
  rw [exec_chrBankWrite hi, writeChrBank_eq]
  exact ⟨_, rfl, rfl, chrApplied_getElem s.chrMode r _ s.chrSlot⟩

end Sys2Proof.Machine
end

section
/-!
The write-protect latch, and the accesses to PRG-RAM through the low window and the PRG windows
(spec/41_write_protect.md).
-/
namespace Sys2Proof.Machine

open Sys2Proof.Claims

/-! ### The latch (spec/41_write_protect.md R200 to R202) -/

theorem unlocked_iff (s : State) : unlocked s = true ↔ keysSet s := by
  simp [unlocked, keysSet, ← BitVec.toNat_inj]

theorem exec_bwProtA (v : Byte) (s : State) :
    exec (.bwProtA v) s = .next { stored 13 v s with protA := BitVec.ofNat 2 v.toNat } := by
  rw [← lowField_eq]; rfl

theorem exec_bwProtB (v : Byte) (s : State) :
    exec (.bwProtB v) s = .next { stored 14 v s with protB := BitVec.ofNat 2 v.toNat } := by
  rw [← lowField_eq]; rfl

/-- Settles O19: each latch write stores its byte and sets its own field beside it. -/
theorem protectWritesSetTheirField : Obligations.ProtectWritesSetTheirField :=
  fun v s => ⟨exec_bwProtA v s, exec_bwProtB v s⟩

/-! ### A call that ends in one PRG-RAM access (spec/60_exceptions.md R402) -/

theorem completeRead_ramRead_of_lt {off : Nat} (s : State) (h : off / 8192 < Config.params.prgRamPages) :
    completeRead (ramRead Config.params s off) (startCall s) = .next (answered (ramByte s off) s) := by
  rw [ramRead, if_pos h]; rfl

theorem completeRead_ramRead_of_le {off : Nat} (s : State) (h : Config.params.prgRamPages ≤ off / 8192) :
    completeRead (ramRead Config.params s off) (startCall s) = .fault .indexOutOfRange := by
  rw [ramRead, if_neg h.not_gt]; rfl

/-- A write that finds its page changes the byte at its offset, no other, and nothing else. -/
theorem completeWrite_ramWrite_of_lt {off : Nat} (v : Byte) (s : State) (h : off / 8192 < Config.params.prgRamPages) :
    ∃ t, completeWrite (ramWrite Config.params off v (startCall s)) = .next t ∧
      t = { quiet s with prgRam := t.prgRam } ∧ ∀ x, ramByte t x = if x = off then v else ramByte s x := by
  rw [ramWrite, if_pos h]
  exact ⟨_, rfl, rfl, fun x => Memory.read_write _ _ off x v⟩

theorem completeWrite_ramWrite_of_le {off : Nat} (v : Byte) (s : State) (h : Config.params.prgRamPages ≤ off / 8192) :
    completeWrite (ramWrite Config.params off v (startCall s)) = .fault .indexOutOfRange := by
  rw [ramWrite, if_neg h.not_gt]; rfl

/-! ### The low window (spec/41_write_protect.md R203, R204) -/

theorem exec_brPrgRamLo (off : BitVec 13) (s : State) :
    exec (.brPrgRamLo off) s = completeRead (ramRead Config.params s (lowRamOffset s off)) (startCall s) := rfl

theorem exec_bwPrgRamLo (off : BitVec 13) (v : Byte) (s : State) :
    exec (.bwPrgRamLo off v) s =
      completeWrite (if unlocked s then ramWrite Config.params (lowRamOffset s off) v (startCall s)
        else some (startCall s)) := rfl

theorem exec_bwPrgRamLo_of_keysSet {s : State} (h : keysSet s) (off : BitVec 13) (v : Byte) :
    exec (.bwPrgRamLo off v) s =
      completeWrite (ramWrite Config.params (lowRamOffset s off) v (startCall s)) := by
  rw [exec_bwPrgRamLo, if_pos ((unlocked_iff s).2 h)]

theorem exec_bwPrgRamLo_of_locked {s : State} (h : ¬ keysSet s) (off : BitVec 13) (v : Byte) :
    exec (.bwPrgRamLo off v) s = .next (quiet s) := by
  rw [exec_bwPrgRamLo, if_neg (mt (unlocked_iff s).1 h)]; rfl

/-- Settles O20: the read asks nothing of the latch, only whether the RAM has the page. -/
theorem lowRamReadIsUngated : Obligations.LowRamReadIsUngated := by
  intro off s
  rw [exec_brPrgRamLo]
  exact ⟨fun hpage => completeRead_ramRead_of_lt s ((lowRamOffset_page s off).trans_lt hpage),
    fun hpage => completeRead_ramRead_of_le s (hpage.trans_eq (lowRamOffset_page s off).symm)⟩

/-- Settles O21: the latch decides whether the write reaches PRG-RAM, the page whether the RAM has the byte. -/
theorem lowRamWriteNeedsBothKeys : Obligations.LowRamWriteNeedsBothKeys := by
  intro off v s
  refine ⟨fun hlocked => exec_bwPrgRamLo_of_locked hlocked off v, fun hkeys hpage => ?_, fun hkeys hpage => ?_⟩
  · rw [exec_bwPrgRamLo_of_keysSet hkeys]
    exact completeWrite_ramWrite_of_lt v s ((lowRamOffset_page s off).trans_lt hpage)
  · rw [exec_bwPrgRamLo_of_keysSet hkeys]
    exact completeWrite_ramWrite_of_le v s (hpage.trans_eq (lowRamOffset_page s off).symm)

/-! ### A low RAM write after the two latch writes (spec/41_write_protect.md R202) -/

theorem runAll_cons_of_next {i : Instr} {s t : State} (h : exec i s = .next t) (rest : List Instr) :
    runAll (i :: rest) s = runAll rest t := by
  rw [runAll, h]

/-- The state after the two latch writes. -/
def latchWritten (a b : Byte) (s : State) : State :=
  { stored 14 b { stored 13 a s with protA := BitVec.ofNat 2 a.toNat } with protB := BitVec.ofNat 2 b.toNat }

theorem runAll_latchWrites (a b : Byte) (rest : List Instr) (s : State) :
    runAll (.bwProtA a :: .bwProtB b :: rest) s = runAll rest (latchWritten a b s) := by
  rw [runAll_cons_of_next (exec_bwProtA a s), runAll_cons_of_next (exec_bwProtB b _)]; rfl

theorem keysSet_latchWritten (a b : Byte) (s : State) :
    keysSet (latchWritten a b s) ↔ a.toNat % 4 = 2 ∧ b.toNat % 4 = 1 := by
  simp [keysSet, latchWritten, stored]

/-- Settles O22: after the two latch writes the keys are set for the pair (2, 1) alone, and the RAM and its page are
those before them. -/
theorem onlyTheTwoKeyPairUnlocks : Obligations.OnlyTheTwoKeyPairUnlocks := by
  intro a b v off s hpage
  rw [runAll_latchWrites]
  obtain ⟨hlocked, hunlocked, -⟩ := lowRamWriteNeedsBothKeys off v (latchWritten a b s)
  by_cases hkeys : keysSet (latchWritten a b s)
  · obtain ⟨t, hexec, -, hbyte⟩ := hunlocked hkeys hpage
    obtain ⟨ha, hb⟩ := (keysSet_latchWritten a b s).1 hkeys
    refine ⟨t, runAll_cons_of_next hexec [], fun x => (hbyte x).trans ?_⟩
    simp only [ha, hb, true_and]; rfl
  · refine ⟨_, runAll_cons_of_next (hlocked hkeys) [], fun x => ?_⟩
    rw [if_neg fun ⟨ha, hb, _⟩ => hkeys ((keysSet_latchWritten a b s).2 ⟨ha, hb⟩)]; rfl

/-! ### The PRG windows (spec/41_write_protect.md R205) -/

theorem exec_bwHigh (a : BitVec 15) (v : Byte) (s : State) :
    exec (.bwHigh a v) s = completeWrite (prgWindowWrite Config.params a v (startCall s)) := rfl

theorem exec_bwHigh_of_rom {a : BitVec 15} {s : State} (hk : (prgWindowOf s a).kind = .rom) (v : Byte) :
    exec (.bwHigh a v) s = .next (quiet s) := by
  have hk' : (prgWindowOf (startCall s) a).kind = .rom := hk
  simp only [exec_bwHigh, prgWindowWrite, hk']; rfl

theorem exec_bwHigh_of_ram {a : BitVec 15} {s : State} (hk : (prgWindowOf s a).kind = .ram) (v : Byte) :
    exec (.bwHigh a v) s =
      completeWrite (if Config.params.highRamProtected && !unlocked s then some (startCall s)
        else ramWrite Config.params (prgOffset s a) v (startCall s)) := by
  have hk' : (prgWindowOf (startCall s) a).kind = .ram := hk
  simp only [exec_bwHigh, prgWindowWrite, hk']; rfl

/-- The latch stops a write through a RAM window where the parameter lets it gate and a key is not set. -/
theorem exec_bwHigh_of_gated {a : BitVec 15} {s : State} (hk : (prgWindowOf s a).kind = .ram)
    (hprot : Config.params.highRamProtected = true) (hlocked : ¬ keysSet s) (v : Byte) :
    exec (.bwHigh a v) s = .next (quiet s) := by
  rw [exec_bwHigh_of_ram hk, if_pos (by simp [hprot, mt (unlocked_iff s).1 hlocked])]; rfl

theorem exec_bwHigh_of_ungated {a : BitVec 15} {s : State} (hk : (prgWindowOf s a).kind = .ram)
    (hopen : Config.params.highRamProtected = true → keysSet s) (v : Byte) :
    exec (.bwHigh a v) s = completeWrite (ramWrite Config.params (prgOffset s a) v (startCall s)) := by
  rw [exec_bwHigh_of_ram hk, if_neg (by simpa [unlocked_iff] using hopen)]

/-- An address from `3 * 8192` up lies in window 3. -/
theorem prgWindowOf_of_top {a : BitVec 15} (h : 3 * 8192 ≤ a.toNat) (s : State) : prgWindowOf s a = s.prgWin[3] := by
  have hw : a.toNat / 8192 = 3 := by omega
  simp only [prgWindowOf_eq, hw]

/-- Settles O23: the window's kind and the gate decide whether the write reaches PRG-RAM, the page whether the RAM has
the byte; window 3 is a ROM window. -/
theorem highWriteReachesRamOnly : Obligations.HighWriteReachesRamOnly := by
  intro a v s w hw
  obtain rfl : prgWindowOf s a = w := (prgWindowOf_eq s a).trans hw
  rw [← prgOffset_eq, ← prgOffset_page]
  refine ⟨fun hrom => exec_bwHigh_of_rom hrom v, fun hram hpage => ?_,
    fun hram hprot hlocked => exec_bwHigh_of_gated hram hprot hlocked v, fun hram hopen hpage => ?_,
    fun htop ha => exec_bwHigh_of_rom ((congrArg PrgWindow.kind (prgWindowOf_of_top ha s)).trans htop) v⟩
  · by_cases hopen : Config.params.highRamProtected = true → keysSet s
    · rw [exec_bwHigh_of_ungated hram hopen]
      obtain ⟨t, hexec, hframe, hbyte⟩ := completeWrite_ramWrite_of_lt v s hpage
      refine ⟨t, hexec, hframe, fun x => ⟨fun ⟨hx, _⟩ => ?_, fun hx => ?_⟩⟩
      · rw [hbyte, if_pos hx]
      · rw [hbyte, if_neg fun h => hx ⟨h, hopen⟩]
    · obtain ⟨hprot, hlocked⟩ := Classical.not_imp.1 hopen
      exact ⟨_, exec_bwHigh_of_gated hram hprot hlocked v, rfl,
        fun x => ⟨fun ⟨_, h⟩ => absurd h hopen, fun _ => rfl⟩⟩
  · rw [exec_bwHigh_of_ungated hram hopen]
    exact completeWrite_ramWrite_of_le v s hpage

end Sys2Proof.Machine
end

section
/-!
The IRQ/scanline unit: its three register accesses and the PPU cycle (spec/42_irq_scanline.md).
-/
namespace Sys2Proof.Machine

open Sys2Proof.Claims

/-! ### The register accesses (spec/42_irq_scanline.md R230 to R232) -/

theorem exec_bwIrqTarget (v : Byte) (s : State) :
    exec (.bwIrqTarget v) s = .next { stored 40 v s with irqTarget := v } := rfl

theorem exec_bwIrqEnable (v : Byte) (s : State) :
    exec (.bwIrqEnable v) s = .next { stored 41 v s with irqEnable := topBit v } := rfl

theorem exec_brIrqStatus (s : State) :
    exec .brIrqStatus s = .next
      { answered s.irqStatus s with
        irqStatus := s.irqStatus &&& 0x7F#8
        irqLine := false
        extCalls := [.releaseInterrupt] } := rfl

/-- Clearing pending keeps the seven bits below it. -/
theorem and_0x7F_eq_mod (x : Byte) : x &&& 0x7F#8 = BitVec.ofNat 8 (x.toNat % 128) := by
  apply BitVec.eq_of_toNat_eq
  have hmask : (x &&& 0x7F#8).toNat = x.toNat % 128 := by
    rw [BitVec.toNat_and]; exact Nat.and_two_pow_sub_one_eq_mod x.toNat 7
  rw [hmask, BitVec.toNat_ofNat]; omega

/-- Settles O32: the enable is the top bit of the byte, and the status read clears the top bit of the status. -/
theorem irqRegisterAccesses : Obligations.IrqRegisterAccesses := by
  intro v s
  refine ⟨exec_bwIrqTarget v s, ?_, ?_⟩
  · rw [exec_bwIrqEnable, topBit_eq]
  · rw [exec_brIrqStatus, and_0x7F_eq_mod]

/-! ### The status byte a PPU cycle leaves (spec/42_irq_scanline.md R233) -/

theorem targetMatches_iff (cycle : Nat) (s : State) :
    targetMatches Config.params cycle s = true ↔ lineMatches cycle s := by
  unfold targetMatches lineMatches
  cases Config.params.irqMatchColumn <;> simp [and_assoc]

/-- The masks of a PPU cycle leave the bits below not-in-frame. -/
theorem syncStatus_getLsbD_of_lt (p : Params) (cycle : Nat) (s : State) {b : Nat} (hb : b < 6) :
    (syncStatus p cycle s).getLsbD b = s.irqStatus.getLsbD b := by
  have hmask : ∀ b < 6, (0xBF#8).getLsbD b = true ∧ (0x40#8).getLsbD b = false ∧ (0x80#8).getLsbD b = false := by
    decide
  obtain ⟨hclear, hframe, hpending⟩ := hmask b hb
  unfold syncStatus
  split_ifs <;>
    simp only [BitVec.getLsbD_and, BitVec.getLsbD_or, hclear, hframe, hpending, Bool.and_true, Bool.or_false]

/-- Not-in-frame follows the raster line. -/
theorem syncStatus_notInFrame (p : Params) (cycle : Nat) (s : State) :
    (syncStatus p cycle s).getLsbD 6 =
      if p.cycleToRasterLine cycle < p.lineP then false
      else if p.cycleToRasterLine cycle = p.lineP then true else s.irqStatus.getLsbD 6 := by
  unfold syncStatus
  split_ifs <;> simp

/-- Pending stays set, and a match sets it. -/
theorem syncStatus_pending (p : Params) (cycle : Nat) (s : State) :
    (syncStatus p cycle s).getLsbD 7 = (s.irqStatus.getLsbD 7 || targetMatches p cycle s) := by
  unfold syncStatus
  split_ifs <;> simp [*]

/-! ### The PPU cycle (spec/42_irq_scanline.md R233) -/

theorem syncStatus_startCall (p : Params) (cycle : Nat) (s : State) :
    syncStatus p cycle (startCall s) = syncStatus p cycle s := rfl

theorem exec_sp (cycle : Nat) (ppuAddr : BitVec 14) (s : State) :
    exec (.sp cycle ppuAddr) s = .next { syncPpu Config.params cycle (startCall s) with reply := .nothing } := rfl

/-- Settles O33: the status is `syncStatus`, of which the bits say the frame and the match; the line and the external
calls follow its pending bit and the raster line. -/
theorem ppuCycleTracksTheRaster : Obligations.PpuCycleTracksTheRaster := by
  rintro cycle ppuAddr s _ rfl
  refine ⟨_, exec_sp cycle ppuAddr s, ?_⟩
  rw [syncPpu_eq, syncStatus_startCall]
  refine ⟨rfl, fun b hb => syncStatus_getLsbD_of_lt _ _ _ hb, syncStatus_notInFrame .., ?_, ?_, ?_⟩
  · rw [syncStatus_pending, Bool.or_eq_true, targetMatches_iff]
  · simp
  · simp only [Bool.and_eq_true, startCall_irqEnable, startCall_extCalls, List.nil_append]
    split_ifs <;> simp

end Sys2Proof.Machine
end

section
/-!
The APU channel units: the register writes, the status read, the envelope and the CPU cycle (spec/43_apu_channels.md).
-/
namespace Sys2Proof.Machine

open Sys2Proof.Claims

/-! ### The Square register writes (spec/43_apu_channels.md R260 to R263) -/

theorem exec_bwSqCtrl (c : Square) (v : Byte) (s : State) :
    exec (.bwSqCtrl c v) s = .next
      (withSquare c (squareControl v (getSquare s c)) (stored (if c = .sq1 then 0 else 4) v s)) := by
  cases c <;> rfl

theorem exec_bwSqSweep (c : Square) (v : Byte) (s : State) :
    exec (.bwSqSweep c v) s = .next
      (withSquare c (squareSweepWrite v (getSquare s c)) (stored (if c = .sq1 then 1 else 5) v s)) := by
  cases c <;> rfl

theorem exec_bwSqTlo (c : Square) (v : Byte) (s : State) :
    exec (.bwSqTlo c v) s = .next
      (withSquare c (squareTimerLow v (getSquare s c)) (stored (if c = .sq1 then 2 else 6) v s)) := by
  cases c <;> rfl

theorem exec_bwSqLen (c : Square) (v : Byte) (s : State) :
    exec (.bwSqLen c v) s = .next
      (withSquare c (squareLength v (getSquare s c)) (stored (if c = .sq1 then 3 else 7) v s)) := by
  cases c <;> rfl

/-- The top bit of a byte is its quotient by 128, which is at most 1. -/
theorem topBit_eq_div (v : Byte) : topBit v = decide (v.toNat / 128 = 1) := by
  rw [topBit_eq, decide_eq_decide]; omega

/-- Settles O37: each field is a quotient of the byte, cut to the field's width. -/
theorem squareControlAndSweepWrites : Obligations.SquareControlAndSweepWrites := by
  intro c v s
  constructor
  · rw [exec_bwSqCtrl, squareControl, dutyField_eq, haltBit_eq, constVolBit_eq, volField_eq]
  · rw [exec_bwSqSweep, squareSweepWrite, topBit_eq_div, sweepPeriodField_eq, sweepNegBit_eq, lowThree_eq]

/-- The timer low write replaces the period's low byte (R262). -/
theorem squareTimerLow_eq (v : Byte) (q : SquareChan) :
    squareTimerLow v q =
      { q with timerPeriod := BitVec.ofNat 11 (q.timerPeriod.toNat / 256 * 256 + v.toNat) } := by
  rw [← squareTimerLow_period, BitVec.ofNat_toNat, BitVec.setWidth_eq]; rfl

/-- The byte's top five bits index the table: the model's and the statements' agree at every index (R263, R278). -/
theorem lengthOf_lengthIndex (v : Byte) : lengthOf (lengthIndex v) = BitVec.ofNat 8 (lengths.getD (v.toNat / 8) 0) := by
  have htable : ∀ i : BitVec 5, lengthOf i = BitVec.ofNat 8 (lengths.getD i.toNat 0) := by decide
  have hindex : (lengthIndex v).toNat = v.toNat / 8 := by rw [lengthIndex_eq, BitVec.toNat_ofNat]; omega
  rw [htable, hindex]

/-- The length write replaces the period's high three bits, loads the length while the channel is enabled, and restarts
the sequencer and the envelope (R263). -/
theorem squareLength_eq (v : Byte) (q : SquareChan) :
    squareLength v q =
      { q with
        timerPeriod := BitVec.ofNat 11 (v.toNat % 8 * 256 + q.timerPeriod.toNat % 256)
        length := if q.enabled then BitVec.ofNat 8 (lengths.getD (v.toNat / 8) 0) else q.length
        seqPos := 0
        envStart := true } := by
  rw [← squareLength_period, BitVec.ofNat_toNat, BitVec.setWidth_eq, ← lengthOf_lengthIndex]; rfl

/-- Settles O38: the two writes set the two halves of the period, the second one the length beside it. -/
theorem squareTimerAndLengthWrites : Obligations.SquareTimerAndLengthWrites := by
  intro c v s
  constructor
  · rw [exec_bwSqTlo, squareTimerLow_eq]
  · rw [exec_bwSqLen, squareLength_eq]

/-! ### The DMC, the mask, the enable and the status (spec/43_apu_channels.md R264 to R267, R277) -/

theorem exec_bwDmcCtrl (v : Byte) (s : State) :
    exec (.bwDmcCtrl v) s = .next { stored 8 v s with dmcCtrl := v } := rfl

theorem exec_bwDmcDac (v : Byte) (s : State) :
    exec (.bwDmcDac v) s = .next { stored 9 v s with dmcDac := v &&& Config.params.dmcMask } := rfl

theorem exec_mkMask (mask : BitVec 3) (s : State) :
    exec (.mkMask mask) s = .next { quiet s with chanMask := mask } := rfl

/-- Settles O39: each of the three calls sets its one field. -/
theorem dmcAndMaskWrites : Obligations.DmcAndMaskWrites :=
  fun v mask s => ⟨exec_bwDmcCtrl v s, exec_bwDmcDac v s, exec_mkMask mask s⟩

theorem exec_bwSndEn (v : Byte) (s : State) :
    exec (.bwSndEn v) s = .next
      { stored 10 v s with
        sq1 := squareEnable (v.getLsbD 0) s.sq1
        sq2 := squareEnable (v.getLsbD 1) s.sq2 } := rfl

theorem exec_brSndStatus (s : State) : exec .brSndStatus s = .next (answered (soundStatus s) s) := rfl

/-- Disabling zeroes the length, enabling leaves it (R266). -/
theorem squareEnable_eq (b : Bool) (q : SquareChan) :
    squareEnable b q = if b then { q with enabled := true } else { q with enabled := false, length := 0 } := by
  cases b <;> rfl

/-- The two bits of the status byte add up, as they stand at different places (R267). -/
theorem soundStatus_eq (s : State) :
    soundStatus s =
      BitVec.ofNat 8 ((if s.sq2.length = 0 then 0 else 2) + (if s.sq1.length = 0 then 0 else 1)) := by
  have hpos : ∀ l : BitVec 8, 0 < l.toNat ↔ ¬ l = 0 := by simp [Nat.pos_iff_ne_zero, BitVec.toNat_eq]
  simp only [soundStatus, hpos, ite_not]
  split_ifs <;> rfl

/-- Settles O40: bit 0 of the byte enables Square 1, bit 1 Square 2; the status shows them at the same places. -/
theorem channelEnableAndStatus : Obligations.ChannelEnableAndStatus := by
  intro v s
  constructor
  · simp only [exec_bwSndEn, squareEnable_eq, getLsbD_eq_div, decide_eq_true_eq, pow_zero, pow_one, Nat.div_one]
  · rw [exec_brSndStatus, soundStatus_eq]

/-! ### The envelope (spec/43_apu_channels.md R271) -/

/-- Counting down from above 0 does not wrap. -/
theorem sub_one_eq_ofNat {w : Nat} {x : BitVec w} (h : 0 < x.toNat) : x - 1#w = BitVec.ofNat w (x.toNat - 1) := by
  rw [← BitVec.ofNat_sub_ofNat_of_le _ _ (by omega) h, BitVec.ofNat_toNat, BitVec.setWidth_eq]

theorem envelopeClock_of_start {q : SquareChan} (h : q.envStart = true) :
    envelopeClock q = { q with envStart := false, envDecay := 15, envDivider := q.vol } := by
  rw [envelopeClock, if_pos h]; rfl

theorem envelopeClock_of_divider_pos {q : SquareChan} (h : q.envStart = false) (hdiv : 0 < q.envDivider.toNat) :
    envelopeClock q = { q with envDivider := BitVec.ofNat 4 (q.envDivider.toNat - 1) } := by
  have hne : q.envDivider ≠ 0#4 := fun h0 => by simp [h0] at hdiv
  rw [envelopeClock, if_neg (by simp [h]), if_neg hne, sub_one_eq_ofNat hdiv]

/-- The decay counts down, and at 0 loops to 15 or stays. -/
theorem decayCount_eq_ofNat (d : BitVec 4) (loop : Bool) :
    (if 0 < d.toNat then d - 1#4 else if loop then 15#4 else d) =
      BitVec.ofNat 4 (if 0 < d.toNat then d.toNat - 1 else if loop then 15 else 0) := by
  split_ifs with hpos
  · exact sub_one_eq_ofNat hpos
  · rfl
  · exact BitVec.eq_of_toNat_eq (Nat.eq_zero_of_not_pos hpos)

theorem envelopeClock_of_divider_zero {q : SquareChan} (h : q.envStart = false) (hdiv : q.envDivider.toNat = 0) :
    envelopeClock q =
      { q with
        envDivider := q.vol
        envDecay := BitVec.ofNat 4
          (if 0 < q.envDecay.toNat then q.envDecay.toNat - 1 else if q.halt then 15 else 0) } := by
  have h0 : q.envDivider = 0#4 := BitVec.eq_of_toNat_eq hdiv
  rw [envelopeClock, if_neg (by simp [h]), if_pos h0, decayCount_eq_ofNat]

/-- Settles O43: the restart, the divider's count and the decay's count are the three cases of the clock. -/
theorem envelopeClockCountsDown : Obligations.EnvelopeClockCountsDown :=
  fun _ => ⟨envelopeClock_of_start, envelopeClock_of_divider_pos, envelopeClock_of_divider_zero⟩

/-! ### The CPU cycle (spec/43_apu_channels.md R268, R270) -/

theorem exec_sc (s : State) :
    exec .sc s = .next { syncCpu Config.params (startCall s) with reply := .nothing } := rfl

section
variable {p : Params} {s : State}

/-- No quarter frame falls in the cycle. -/
theorem cycleChannel_of_no_quarter (h : s.frameCtr + 1 ≠ p.quarterPeriod) (c : Square) (q : SquareChan) :
    cycleChannel p c s q = if s.apuParity then timerClock q else q := by
  simp [cycleChannel, h]

/-- A quarter frame that is no half frame falls in the cycle. -/
theorem cycleChannel_of_quarter (h : s.frameCtr + 1 = p.quarterPeriod) (hh : s.quarterCount + 1 ≠ p.halfDiv)
    (c : Square) (q : SquareChan) :
    cycleChannel p c s q = if s.apuParity then timerClock (envelopeClock q) else envelopeClock q := by
  simp [cycleChannel, quarterChannel, h, hh]

/-- A half frame falls in the cycle. -/
theorem cycleChannel_of_half (h : s.frameCtr + 1 = p.quarterPeriod) (hh : s.quarterCount + 1 = p.halfDiv)
    (c : Square) (q : SquareChan) :
    cycleChannel p c s q =
      if s.apuParity then timerClock (sweepClock p c (lengthClock (envelopeClock q)))
      else sweepClock p c (lengthClock (envelopeClock q)) := by
  simp [cycleChannel, quarterChannel, halfFrameClock, h, hh]

end

/-- Settles O41: the frame is that of the clocks and the samples; each Square is `cycleChannel` of itself, in the three
cases of the frame divider. -/
theorem cpuCycleClocksTheChannels : Obligations.CpuCycleClocksTheChannels := by
  intro s
  refine ⟨_, exec_sc s, ?_⟩
  rw [syncCpu, clocks_eq]
  refine ⟨rfl, fun h => ?_, fun h hh => ?_, fun h hh => ?_⟩
  · exact ⟨if_neg h, if_neg h, cycleChannel_of_no_quarter h .sq1 _, cycleChannel_of_no_quarter h .sq2 _⟩
  · exact ⟨if_pos h, (if_pos h).trans (if_neg hh), cycleChannel_of_quarter h hh .sq1 _,
      cycleChannel_of_quarter h hh .sq2 _⟩
  · exact ⟨if_pos h, (if_pos h).trans (if_pos hh), cycleChannel_of_half h hh .sq1 _,
      cycleChannel_of_half h hh .sq2 _⟩

end Sys2Proof.Machine
end

section
/-!
The mixer: its arithmetic in the statements' form, and the call that drains the buffers (spec/44_mixer.md).
-/
namespace Sys2Proof.Machine

open Sys2Proof.Claims

/-! ### The mix of one index (spec/44_mixer.md R331 to R333) -/

/-- The two terms' common shape without the fraction in the denominator; that form is 0 at 0 by itself and needs no
guard. -/
theorem guardedTerm_eq (c : Rat) {k : Rat} (hk : 0 < k) (n : Nat) :
    (if n = 0 then 0 else c / 100 / (k / (n : Rat) + 100)) = c * n / (100 * (k + 100 * n)) := by
  split
  case isTrue h => simp [h]
  case isFalse h =>
    have hn : (0 : Rat) < n := by exact_mod_cast Nat.pos_of_ne_zero h
    field_simp

theorem scaledSample_eq_mixedValue (p : Params) (a b d : Nat) : scaledSample p a b d = mixedValue p ((a, b), d) := by
  have hsq : sqTerm a b = _ := guardedTerm_eq 9588 (k := 8128) (by norm_num) (a + b)
  have hdmc : dmcTerm d = _ := guardedTerm_eq 15979 (k := 22638) (by norm_num) d
  rw [scaledSample, hsq, hdmc, mixedValue]

/-! ### The frame average (spec/44_mixer.md R334) -/

/-- The sum stops with the shortest buffer, as `zip` does. -/
theorem scaledSum_eq_sum (p : Params) (as bs ds : List Nat) :
    scaledSum p as bs ds = (((as.zip bs).zip ds).map (mixedValue p)).sum := by
  fun_induction scaledSum p as bs ds with
  | case1 a as b bs d ds ih => simp [ih, scaledSample_eq_mixedValue]
  | case2 as bs ds h =>
    rcases as with _ | ⟨a, as⟩
    · simp
    rcases bs with _ | ⟨b, bs⟩
    · simp
    rcases ds with _ | ⟨d, ds⟩
    · simp
    exact (h a as b bs d ds rfl rfl rfl).elim

/-- Division toward zero is the floor from 0 up and the ceiling below 0. -/
theorem trunc0_eq_integerPart (q : Rat) : trunc0 q = integerPart q := by
  rw [trunc0, integerPart]
  split
  case isTrue h => rw [Rat.floor_def', Int.tdiv_eq_ediv_of_nonneg (Rat.num_nonneg.mpr h)]
  case isFalse h =>
    have hneg : 0 ≤ -q.num := Int.neg_nonneg.mpr (Rat.num_neg.mpr (not_le.mp h)).le
    rw [Rat.ceil_def', ← Int.tdiv_eq_ediv_of_nonneg hneg, Int.neg_tdiv, neg_neg]

theorem frameAverage_eq_averageOf (p : Params) (s : State) : frameAverage p s = averageOf p s := by
  rw [frameAverage, averageOf, scaledSum_eq_sum, trunc0_eq_integerPart]
  split
  case isTrue => rfl
  case isFalse => rw [clamp16, min_comm]

/-! ### The call (spec/44_mixer.md R330, R336) -/

theorem exec_am (s : State) :
    exec .am s = .next
      { s with
        mixPrev := nextSample Config.params s, sq1Buf := [], sq2Buf := [], dmcBuf := [], sampleCount := 0
        reply := .sample (nextSample Config.params s), extCalls := [] } := rfl

/-- Settles O48: the call answers `nextSample`, the filter (R335) of the model's frame average, which is the statements'. -/
theorem audioAmplitudeMixesAndDrains : Obligations.AudioAmplitudeMixesAndDrains := by
  intro s y hy
  have hsample : nextSample Config.params s = y := by rw [nextSample, smooth, frameAverage_eq_averageOf, hy]
  rw [exec_am, hsample]

end Sys2Proof.Machine
end

section
/-!
The multiplier: its two operand writes and its two result reads (spec/45_multiplier.md).
-/
namespace Sys2Proof.Machine

open Sys2Proof.Claims

theorem product8_eq_ofNat (a b : Byte) : product8 a b = BitVec.ofNat 16 (a.toNat * b.toNat) := by
  rw [← product8_toNat, BitVec.ofNat_toNat, BitVec.setWidth_eq]

theorem exec_bwMulA (v : Byte) (s : State) :
    exec (.bwMulA v) s = .next { stored 42 v s with mulA := v, product := product8 v s.mulB } := rfl

theorem exec_bwMulB (v : Byte) (s : State) :
    exec (.bwMulB v) s = .next { stored 43 v s with mulB := v, product := product8 s.mulA v } := rfl

theorem exec_brMulLo (s : State) : exec .brMulLo s = .next (answered (s.product.extractLsb' 0 8) s) := rfl

theorem exec_brMulHi (s : State) : exec .brMulHi s = .next (answered (s.product.extractLsb' 8 8) s) := rfl

theorem lowByte_eq_mod (x : BitVec 16) : x.extractLsb' 0 8 = BitVec.ofNat 8 (x.toNat % 256) := by
  apply BitVec.eq_of_toNat_eq
  simp

theorem highByte_eq_div (x : BitVec 16) : x.extractLsb' 8 8 = BitVec.ofNat 8 (x.toNat / 256) :=
  extractLsb'_eq_div ..

/-- Settles O51: each call's equation, with the product and its two bytes in arithmetic. -/
theorem multiplierWritesAndReads : Obligations.MultiplierWritesAndReads := by
  intro v s
  refine ⟨?_, ?_, ?_, ?_⟩
  · rw [exec_bwMulA, product8_eq_ofNat]
  · rw [exec_bwMulB, product8_eq_ofNat]
  · rw [exec_brMulLo, lowByte_eq_mod]
  · rw [exec_brMulHi, highByte_eq_div]

end Sys2Proof.Machine
end

section
/-!
The register bank: the stored-only writes, the debug read, and the low accesses no register answers
(spec/46_register_bank_misc.md).
-/
namespace Sys2Proof.Machine

open Sys2Proof.Claims

/-! ### The debug read (spec/46_register_bank_misc.md R384) -/

theorem registerAddresses_getElem? : ∀ k : Fin 44,
    registerAddresses[k.val]? = some (BitVec.ofNat 16 (regAddress k.val)) := by decide

theorem regIdx_of_registerAddresses {a : CpuAddr} {k : Fin 44} (h : registerAddresses[k.val]? = some a) :
    regIdx a = some k := by
  rw [registerAddresses_getElem?, Option.some.injEq] at h
  rw [← h, regIdx_regAddress]

/-- The register map has no address that the spec's list lacks; the converse of `not_mem_registerAddresses`. -/
theorem regIdx_eq_none_of_not_mem {a : CpuAddr} (h : a ∉ registerAddresses) : regIdx a = none := by
  rw [Option.eq_none_iff_forall_ne_some]
  intro k hk
  have ha : BitVec.ofNat 16 (regAddress k.val) = a := by
    rw [← regIdx_eq_some hk, BitVec.ofNat_toNat, BitVec.setWidth_eq]
  exact h (ha ▸ List.mem_of_getElem? (registerAddresses_getElem? k))

theorem debugRead_of_register {a : CpuAddr} {k : Fin 44} (h : regIdx a = some k) (s : State) :
    debugRead s a = some (s.reg[k.val]) := by
  simp only [debugRead, h, getReg]

theorem debugRead_of_no_register {a : CpuAddr} (h : regIdx a = none) (s : State) : debugRead s a = none := by
  simp only [debugRead, h]

theorem exec_dr (a : CpuAddr) (s : State) :
    exec (.dr a) s = .next { s with reply := .register (debugRead s a), extCalls := [] } := rfl

/-- Settles O8: the register map is the spec's list, and the debug read looks its address up there. -/
theorem debugReadShowsTheRawRegister : Obligations.DebugReadShowsTheRawRegister := by
  intro a s
  constructor
  · intro k hk
    rw [exec_dr, debugRead_of_register (regIdx_of_registerAddresses hk)]
  · intro ha
    rw [exec_dr, debugRead_of_no_register (regIdx_eq_none_of_not_mem ha)]

/-! ### The words of the low accesses (spec/30_encoding.md R111, R119) -/

theorem packFields_read (a : CpuAddr) : packFields ⟨0, 0, 0, a⟩ = a.setWidth 32 := by
  apply BitVec.eq_of_toNat_eq
  have := a.isLt
  rw [packFields_toNat, BitVec.toNat_setWidth]
  simp only [BitVec.ofNat_eq_ofNat, BitVec.toNat_ofNat]
  omega

theorem packFields_write (a : CpuAddr) (v : Byte) :
    packFields ⟨1, 0, v, a⟩ = BitVec.ofNat 32 (0x10000000 + v.toNat * 0x10000 + a.toNat) := by
  apply BitVec.eq_of_toNat_eq
  have := a.isLt
  have := v.isLt
  rw [packFields_toNat, BitVec.toNat_ofNat]
  simp only [BitVec.ofNat_eq_ofNat, BitVec.toNat_ofNat]
  omega

theorem decode_readWord (a : CpuAddr) (cycle : Nat) : decode (a.setWidth 32) cycle = .ok (decodeRead a) := by
  rw [← packFields_read, decode, fieldsOf_packFields, decodeFields_read]

theorem decode_writeWord (a : CpuAddr) (v : Byte) (cycle : Nat) :
    decode (BitVec.ofNat 32 (0x10000000 + v.toNat * 0x10000 + a.toNat)) cycle = .ok (decodeWrite a v) := by
  rw [← packFields_write, decode, fieldsOf_packFields, decodeFields_write]

/-! ### The low accesses no register answers (spec/46_register_bank_misc.md R383, R385) -/

section LowRange

variable {a : CpuAddr} (hlow : 0x4020 ≤ a.toNat) (hhigh : a.toNat ≤ 0x5FFF)

include hhigh in
theorem isLow_of_le : isLow a = true := decide_eq_true (by omega)

include hhigh in
theorem not_isRamWindow_of_le : isRamWindow a = false := decide_eq_false (by omega)

include hlow in
theorem not_belowLowRange_of_le : belowLowRange a = false := decide_eq_false (by omega)

include hhigh in
theorem brUndriven_wf (h : isDriven a = false) : (Instr.brUndriven a).wf = true := by
  simp [Instr.wf, isLow_of_le hhigh, not_isRamWindow_of_le hhigh, h]

include hhigh in
theorem bwUnmapped_wf (h : regIdx a = none) (v : Byte) : (Instr.bwUnmapped a v).wf = true := by
  simp [Instr.wf, isLow_of_le hhigh, not_isRamWindow_of_le hhigh, h]

include hlow in
theorem exec_brUndriven (s : State) : exec (.brUndriven a) s = .next (answeredDraw s) := by
  change execBrUndriven a s = _
  rw [execBrUndriven, not_belowLowRange_of_le hlow]
  rfl

include hlow in
theorem exec_bwUnmapped (v : Byte) (s : State) : exec (.bwUnmapped a v) s = .next (quiet s) := by
  change execBwUnmapped a v s = _
  rw [execBwUnmapped, not_belowLowRange_of_le hlow]
  rfl

end LowRange

/-- Settles O10: such a read is well-formed as the undriven one, so it decodes to it, and its address is not below the
low range, so it is not refused. -/
theorem undrivenReadReturnsADraw : Obligations.UndrivenReadReturnsADraw := by
  intro a cycle s hlow hhigh hstatus hirq hmulLo hmulHi
  have hdriven : isDriven a = false := by simp [isDriven, hstatus, hirq, hmulLo, hmulHi]
  exact ⟨by rw [decode_readWord, decodeRead_undriven (brUndriven_wf hhigh hdriven)], exec_brUndriven hlow s⟩

/-- Settles O11: such a write is well-formed as the unmapped one, so it decodes to it, and its address is not below the
low range, so it is not refused. -/
theorem unmappedWriteIsIgnored : Obligations.UnmappedWriteIsIgnored := by
  intro a v cycle s hlow hhigh ha
  have hwf := bwUnmapped_wf hhigh (regIdx_eq_none_of_not_mem ha) v
  exact ⟨by rw [decode_writeWord, decodeWrite_unmapped hwf], exec_bwUnmapped hlow v s⟩

/-! ### The stored-only writes (spec/46_register_bank_misc.md R382) -/

theorem storeOnly_eq (i : Fin 44) (v : Byte) (s : State) : storeOnly i v s = .next (stored i v s) := rfl

/-- Settles O9: each of the six is `storeOnly` at its register's index. -/
theorem storedOnlyWritesStore : Obligations.StoredOnlyWritesStore := fun v s =>
  ⟨storeOnly_eq rExramMode v s, storeOnly_eq rFillTile v s, storeOnly_eq rFillAttr v s, storeOnly_eq rSplitMode v s,
    storeOnly_eq rSplitScroll v s, storeOnly_eq rSplitBank v s⟩

end Sys2Proof.Machine
end

section
/-!
Reset (spec/70_reset_and_hazards.md R430, R431, R433).
-/
namespace Sys2Proof.Machine

open Sys2Proof.Claims

/-! ### The created unit's tables in the statement's arithmetic (spec/10_state.md R33, R38, R39, R41) -/

theorem reset_reg_eq_ofFn : State.reset.reg = Vector.ofFn fun k : Fin 44 =>
    if k.val = 11 then 0x03#8 else if 20 ≤ k.val ∧ k.val ≤ 23 then 0xFF#8 else 0x00#8 := by decide

theorem reset_chrHi_eq_ofFn : State.reset.chrHi = Vector.ofFn fun _ => 0 := by decide

theorem reset_chrSlot_eq_ofFn : State.reset.chrSlot = Vector.ofFn fun i : Fin 12 => i.val % 8 := by decide

theorem reset_prgWin_eq_ofFn :
    State.reset.prgWin = Vector.ofFn fun _ => ⟨.rom, 0x7F % Config.params.prgRomPages⟩ := by
  ext1 i hi
  rw [Vector.getElem_ofFn]
  exact Vector.getElem_replicate hi

/-! ### The tables a reset derives (spec/70_reset_and_hazards.md R430) -/

/-- All four windows of PRG mode 3 are the last ROM page, for every bank byte is `$FF`. -/
theorem derivedPrg_resetRegisters (s : State) : derivedPrg Config.params (resetRegisters s) = State.reset.prgWin :=
  derivePrg_eq_schemeWindows 3 0xFF 0xFF 0xFF 0xFF

/-- Every stored CHR bank value is 0. -/
theorem storedBank_resetRegisters (s : State) (r : Fin 12) : storedBank (resetRegisters s) r = 0 := by
  have hzero : ∀ r : Fin 12, storedBank State.reset r = 0 := by decide
  exact hzero r

/-- In CHR mode 0 a slot of bank value 0 is its place among those of its register. -/
theorem derivedChr_resetRegisters (s : State) : derivedChr (resetRegisters s) = State.reset.chrSlot := by
  have hslot : ∀ j : Fin 12, slotValue 0 0 j = State.reset.chrSlot[j.val] := by decide
  ext1 i hi
  calc (derivedChr (resetRegisters s))[i]
      = slotValue 0 (storedBank (resetRegisters s) (chrDriver 0 ⟨i, hi⟩)) ⟨i, hi⟩ := derivedChr_getElem _ ⟨i, hi⟩
    _ = State.reset.chrSlot[i] := by rw [storedBank_resetRegisters, hslot]

/-- The tables a reset derives are the created unit's. -/
theorem resetTables_resetRegisters (s : State) :
    resetTables Config.params (resetRegisters s) =
      { resetRegisters s with prgWin := State.reset.prgWin, lowRamPage := 0, chrSlot := State.reset.chrSlot } := by
  have hpage : ramPage Config.params 0 = 0 := Nat.zero_mod _
  rw [← derivedPrg_resetRegisters s, ← derivedChr_resetRegisters s, ← hpage]
  rfl

/-! ### The reset itself (spec/70_reset_and_hazards.md R430, R431) -/

/-- The created unit with what a reset keeps of `s`: the mask, the memories, and the model's own calls and draws. -/
def resetKeeping (s : State) : State :=
  { State.reset with
    chanMask := s.chanMask, prgRam := s.prgRam, chrMem := s.chrMem, calls := s.calls, drawCtr := s.drawCtr }

theorem resetKeeping_reset : resetKeeping State.reset = State.reset := rfl

/-- Soft or hard, a reset leaves the created unit with what it keeps. -/
theorem exec_rs (soft : Bool) (s : State) : exec (.rs soft) s = .next (resetKeeping s) := by
  change complete .nothing (callOut _ (resetAudio (resetIrq (resetTables _ (resetRegisters (startCall s)))))) = _
  rw [resetTables_resetRegisters]
  rfl

/-- Settles O53: a reset leaves the created unit with the kept fields, whose tables are those of R430; so it leaves the
created unit as it is. -/
theorem resetEstablishesTheResetState : Obligations.ResetEstablishesTheResetState := by
  refine ⟨fun soft s => ?_, rfl, State.reset, ?_, rfl⟩
  · rw [exec_rs, ← reset_reg_eq_ofFn, ← reset_chrHi_eq_ofFn, ← reset_chrSlot_eq_ofFn, ← reset_prgWin_eq_ofFn]
    rfl
  · rw [exec_rs, resetKeeping_reset]

end Sys2Proof.Machine
end

section
/-!
What decodes is what was encoded, and which words the decoder refuses (spec/30_encoding.md R111 to R117).
-/
namespace Sys2Proof.Machine

open Sys2Proof.Claims

/-! ### The dispatch of a bus address, inverted (spec/30_encoding.md R112, R114, R115) -/

/-- The top bits of a word, as a number. -/
theorem topBits_toNat {m n : Nat} (a : BitVec (m + n)) : (a.extractLsb' n m).toNat = a.toNat / 2 ^ n := by
  have hm : a.toNat / 2 ^ n < 2 ^ m := Nat.div_lt_of_lt_mul (by rw [Nat.mul_comm, ← Nat.pow_add]; exact a.isLt)
  rw [extractLsb'_eq_div, BitVec.toNat_ofNat, Nat.mod_eq_of_lt hm]

/-- A word is its two fields side by side. -/
theorem append_extractLsb'_eq {m n : Nat} (a : BitVec (m + n)) : a.extractLsb' n m ++ a.extractLsb' 0 n = a := by
  apply BitVec.eq_of_toNat_eq
  rw [toNat_append_eq, topBits_toNat, extractLsb'_eq_div, BitVec.toNat_ofNat, Nat.pow_zero, Nat.div_one]
  exact Nat.div_add_mod' ..

/-- Top bits that are known, with the rest of the word, are the word. -/
theorem append_low_eq {m n : Nat} {a : BitVec (m + n)} {c : BitVec m} (h : a.extractLsb' n m = c) :
    c ++ a.extractLsb' 0 n = a := by
  rw [← h, append_extractLsb'_eq]

/-- An address with the top bits of neither memory window is low and outside the PRG-RAM window; the converse of
`not_window_of_low`. -/
theorem low_of_not_window {a : CpuAddr} (hram : a.extractLsb' 13 3 ≠ 0b011#3) (hhigh : a.extractLsb' 15 1 ≠ 0b1#1) :
    isLow a = true ∧ isRamWindow a = false := by
  rw [ne_eq, field_eq_iff] at hram hhigh
  rw [isLow, isRamWindow, decide_eq_true_eq, decide_eq_false_iff_not]
  omega

/-- The operation is well-formed, its fields are `f`, and where it is SP its side argument is `cycle`. -/
structure EncodesTo (i : Instr) (f : Fields) (cycle : Nat) : Prop where
  wf : i.wf = true
  fields : encodeFields i = f
  side : ∀ c a, i = .sp c a → c = cycle

/-- No kind but SP's has a side argument to carry. -/
theorem EncodesTo.of_wf {i : Instr} {k z : BitVec 4} {d : Byte} {a : CpuAddr} {cycle : Nat}
    (hf : encodeFields i = ⟨k, z, d, a⟩) (hk : k ≠ 5) (hwf : i.wf = true) : EncodesTo i ⟨k, z, d, a⟩ cycle := by
  refine ⟨hwf, hf, ?_⟩
  rintro c a rfl
  exact absurd (congrArg Fields.kind hf).symm hk

theorem decodeRead_encodesTo (a : CpuAddr) (cycle : Nat) : EncodesTo (decodeRead a) ⟨0, 0, 0, a⟩ cycle := by
  suffices h : encodeFields (decodeRead a) = ⟨0, 0, 0, a⟩ ∧ (decodeRead a).wf = true from
    .of_wf h.1 (by decide) h.2
  by_cases hdriven : isDriven a = true
  · simp only [isDriven, Bool.or_eq_true, decide_eq_true_eq] at hdriven
    obtain ((rfl | rfl) | rfl) | rfl := hdriven <;> exact ⟨rfl, rfl⟩
  · rw [decodeRead_of_not_driven (eq_false_of_ne_true hdriven)]
    split_ifs with hram hhigh
    · exact ⟨congrArg _ (append_low_eq hram), rfl⟩
    · exact ⟨congrArg _ (append_low_eq hhigh), rfl⟩
    · obtain ⟨hlow, hout⟩ := low_of_not_window hram hhigh
      exact ⟨rfl, by simp [Instr.wf, hdriven, hlow, hout]⟩

/-- A write to a register's address is that address's row. -/
theorem decodeWrite_register (v : Byte) (k : Fin 44) :
    encodeFields (decodeWrite (BitVec.ofNat 16 (regAddress k.val)) v) =
        ⟨1, 0, v, BitVec.ofNat 16 (regAddress k.val)⟩ ∧
      (decodeWrite (BitVec.ofNat 16 (regAddress k.val)) v).wf = true := by
  fin_cases k <;> exact ⟨rfl, rfl⟩

theorem decodeWrite_encodesTo (a : CpuAddr) (v : Byte) (cycle : Nat) :
    EncodesTo (decodeWrite a v) ⟨1, 0, v, a⟩ cycle := by
  suffices h : encodeFields (decodeWrite a v) = ⟨1, 0, v, a⟩ ∧ (decodeWrite a v).wf = true from
    .of_wf h.1 (by decide) h.2
  cases hreg : regIdx a with
  | some k =>
    obtain rfl : BitVec.ofNat 16 (regAddress k.val) = a := by
      rw [← regIdx_eq_some hreg, BitVec.ofNat_toNat, BitVec.setWidth_eq]
    exact decodeWrite_register v k
  | none =>
    rw [decodeWrite_of_no_register hreg]
    split_ifs with hram hhigh
    · exact ⟨congrArg _ (append_low_eq hram), rfl⟩
    · exact ⟨congrArg _ (append_low_eq hhigh), rfl⟩
    · obtain ⟨hlow, hout⟩ := low_of_not_window hram hhigh
      exact ⟨rfl, by simp [Instr.wf, hreg, hlow, hout]⟩

/-! ### What the decoder says of a word (spec/30_encoding.md R111, R117, spec/20_memory.md R81) -/

/-- The top bits of a word are 0 where the word is below `2 ^ n`. -/
theorem topBits_eq_zero_iff {m n : Nat} (a : BitVec (m + n)) : a.extractLsb' n m = 0#m ↔ a.toNat < 2 ^ n := by
  rw [← BitVec.toNat_inj, topBits_toNat, BitVec.toNat_ofNat, Nat.zero_mod,
    Nat.div_eq_zero_iff_lt (Nat.two_pow_pos n)]

section
variable (f : Fields)

@[simp] theorem kindOf_packFields : kindOf (packFields f) = f.kind.toNat := by
  have := f.zero.isLt; have := f.data.isLt; have := f.addr.isLt
  rw [kindOf, packFields_toNat]; omega

@[simp] theorem zeroOf_packFields : zeroOf (packFields f) = f.zero.toNat := by
  have := f.zero.isLt; have := f.data.isLt; have := f.addr.isLt
  rw [zeroOf, packFields_toNat]; omega

@[simp] theorem dataOf_packFields : dataOf (packFields f) = f.data.toNat := by
  have := f.data.isLt; have := f.addr.isLt
  rw [dataOf, packFields_toNat]; omega

@[simp] theorem addrOf_packFields : addrOf (packFields f) = f.addr.toNat := by
  have := f.addr.isLt
  rw [addrOf, packFields_toNat]; omega

end

/-- What the decoder says of the word with the fields `f`: no legal word, a pattern address out of range, or the
operation it encodes. -/
inductive Verdict (f : Fields) (cycle : Nat) : Prop where
  | illegal (hlegal : ¬ fieldsLegal (packFields f)) (e : DecodeError) (he : decodeFields f cycle = .error e)
      (hr : refusalOf e = .illegalOperationWord)
  | outside (hlegal : fieldsLegal (packFields f)) (hout : patternOutOfRange (packFields f))
      (he : decodeFields f cycle = .error .addressOutsideRange)
  | operation (hlegal : fieldsLegal (packFields f)) (hout : ¬ patternOutOfRange (packFields f)) (i : Instr)
      (hi : decodeFields f cycle = .ok i) (hf : EncodesTo i f cycle)

/-- The kinds that take no pattern address: the fields that must be 0 decide. -/
theorem Verdict.of_mustBeZero {k : BitVec 4} {d : Byte} {a : CpuAddr} {cycle : Nat} {i : Instr} {C : Prop} [Decidable C]
    (hd : decodeFields ⟨k, 0, d, a⟩ cycle = if C then .ok i else .error .mustBeZero)
    (hl : fieldsLegal (packFields ⟨k, 0, d, a⟩) ↔ C) (hk : k ≠ 2 ∧ k ≠ 3) (hi : C → EncodesTo i ⟨k, 0, d, a⟩ cycle) :
    Verdict ⟨k, 0, d, a⟩ cycle := by
  by_cases hC : C
  · rw [if_pos hC] at hd
    refine .operation (hl.2 hC) (fun h => ?_) i hd (hi hC)
    rw [patternOutOfRange, kindOf_packFields] at h
    exact h.1.elim (fun h => hk.1 (BitVec.eq_of_toNat_eq h)) fun h => hk.2 (BitVec.eq_of_toNat_eq h)
  · rw [if_neg hC] at hd
    exact .illegal (mt hl.1 hC) _ hd rfl

/-- A pattern access that is legal: the range of its address decides. -/
theorem Verdict.of_pattern {f : Fields} {cycle : Nat} {i : Instr}
    (hd : decodeFields f cycle =
      if f.addr.extractLsb' 13 3 = 0#3 then .ok i else .error .addressOutsideRange)
    (hk : f.kind = 2 ∨ f.kind = 3) (hl : fieldsLegal (packFields f))
    (hi : f.addr.extractLsb' 13 3 = 0#3 → EncodesTo i f cycle) : Verdict f cycle := by
  have hout : patternOutOfRange (packFields f) ↔ 0x2000 ≤ f.addr.toNat := by
    rw [patternOutOfRange, kindOf_packFields, addrOf_packFields]
    exact and_iff_right (hk.imp (congrArg BitVec.toNat) (congrArg BitVec.toNat))
  have hlt := topBits_eq_zero_iff (m := 3) (n := 13) f.addr
  by_cases ha : f.addr.extractLsb' 13 3 = 0#3
  · rw [if_pos ha] at hd
    exact .operation hl (mt hout.1 (Nat.not_le.2 (hlt.1 ha))) i hd (hi ha)
  · rw [if_neg ha] at hd
    exact .outside hl (hout.2 (Nat.not_lt.1 (mt hlt.2 ha))) hd

section
variable (d : Byte) (a : CpuAddr) (cycle : Nat)

theorem verdict_read : Verdict ⟨0, 0, d, a⟩ cycle := by
  refine .of_mustBeZero (C := d = 0#8) (i := decodeRead a) rfl ?_ ⟨by decide, by decide⟩ ?_
  · simp [fieldsLegal, ← BitVec.toNat_inj]
  · rintro rfl
    exact decodeRead_encodesTo a cycle

theorem verdict_write : Verdict ⟨1, 0, d, a⟩ cycle :=
  .operation (by simp [fieldsLegal]) (by simp [patternOutOfRange]) _ (decodeFields_write a d cycle)
    (decodeWrite_encodesTo a d cycle)

theorem verdict_patternRead : Verdict ⟨2, 0, d, a⟩ cycle := by
  by_cases hd : d = 0#8
  · subst hd
    refine .of_pattern (decodeFields_pr a cycle) (.inl rfl) (by simp [fieldsLegal]) fun ha => ?_
    exact .of_wf (congrArg _ (append_low_eq (m := 3) ha)) (by decide) rfl
  · exact .illegal (by simpa [fieldsLegal, ← BitVec.toNat_inj] using hd) _ (if_pos hd) rfl

theorem verdict_patternWrite : Verdict ⟨3, 0, d, a⟩ cycle := by
  refine .of_pattern (decodeFields_pw a d cycle) (.inr rfl) (by simp [fieldsLegal]) fun ha => ?_
  exact .of_wf (congrArg _ (append_low_eq (m := 3) ha)) (by decide) rfl

theorem verdict_cpuCycle : Verdict ⟨4, 0, d, a⟩ cycle := by
  refine .of_mustBeZero (C := d = 0#8 ∧ a = 0#16) (i := .sc) rfl ?_ ⟨by decide, by decide⟩ ?_
  · simp [fieldsLegal, ← BitVec.toNat_inj]
  · rintro ⟨rfl, rfl⟩
    exact .of_wf rfl (by decide) rfl

theorem verdict_ppuCycle : Verdict ⟨5, 0, d, a⟩ cycle := by
  refine .of_mustBeZero (C := d = 0#8 ∧ a.extractLsb' 14 2 = 0#2) (i := .sp cycle (a.extractLsb' 0 14)) rfl ?_
    ⟨by decide, by decide⟩ ?_
  · rw [topBits_eq_zero_iff (m := 2) (n := 14) a]
    simp [fieldsLegal, ← BitVec.toNat_inj]
  · rintro ⟨rfl, ha⟩
    exact ⟨rfl, congrArg _ (append_low_eq (m := 2) ha), fun c b h => by cases h; rfl⟩

theorem verdict_amplitude : Verdict ⟨6, 0, d, a⟩ cycle := by
  refine .of_mustBeZero (C := d = 0#8 ∧ a = 0#16) (i := .am) rfl ?_ ⟨by decide, by decide⟩ ?_
  · simp [fieldsLegal, ← BitVec.toNat_inj]
  · rintro ⟨rfl, rfl⟩
    exact .of_wf rfl (by decide) rfl

theorem verdict_reset : Verdict ⟨7, 0, d, a⟩ cycle := by
  refine .of_mustBeZero (C := d.extractLsb' 1 7 = 0#7 ∧ a = 0#16) (i := .rs (d.getLsbD 0)) rfl ?_
    ⟨by decide, by decide⟩ ?_
  · rw [topBits_eq_zero_iff (m := 7) (n := 1) d]
    simp [fieldsLegal, ← BitVec.toNat_inj]
  · rintro ⟨hd, rfl⟩
    have hbit : BitVec.ofBool (d.getLsbD 0) = d.extractLsb' 0 1 := by
      revert d; decide
    refine .of_wf ?_ (by decide) rfl
    rw [encodeFields, hbit, append_low_eq (m := 7) hd]; rfl

theorem verdict_mask : Verdict ⟨8, 0, d, a⟩ cycle := by
  refine .of_mustBeZero (C := d.extractLsb' 3 5 = 0#5 ∧ a = 0#16) (i := .mkMask (d.extractLsb' 0 3)) rfl ?_
    ⟨by decide, by decide⟩ ?_
  · rw [topBits_eq_zero_iff (m := 5) (n := 3) d]
    simp [fieldsLegal, ← BitVec.toNat_inj]
  · rintro ⟨hd, rfl⟩
    refine .of_wf ?_ (by decide) rfl
    rw [encodeFields, append_low_eq (m := 5) hd]; rfl

theorem verdict_debugRead : Verdict ⟨9, 0, d, a⟩ cycle := by
  refine .of_mustBeZero (C := d = 0#8) (i := .dr a) rfl ?_ ⟨by decide, by decide⟩ ?_
  · simp [fieldsLegal, ← BitVec.toNat_inj]
  · rintro rfl
    exact .of_wf rfl (by decide) rfl

end

/-- No meaning is given to the kinds from 10 on. -/
theorem verdict_unknownKind {k : BitVec 4} (hk : 10 ≤ k.toNat) (d : Byte) (a : CpuAddr) (cycle : Nat) :
    Verdict ⟨k, 0, d, a⟩ cycle := by
  have hne : ∀ n < 10, k ≠ BitVec.ofNat 4 n := by
    rintro n hn rfl
    rw [BitVec.toNat_ofNat] at hk; omega
  refine .illegal ?_ .illegalKind ?_ rfl
  · simp only [fieldsLegal, kindOf_packFields]
    rintro ⟨-, h⟩
    split at h <;> omega
  · simp [decodeFields, hne 0, hne 1, hne 2, hne 3, hne 4, hne 5, hne 6, hne 7, hne 8, hne 9]

theorem kind_cases : ∀ k : BitVec 4, k = 0 ∨ k = 1 ∨ k = 2 ∨ k = 3 ∨ k = 4 ∨ k = 5 ∨ k = 6 ∨ k = 7 ∨ k = 8 ∨ k = 9 ∨
    10 ≤ k.toNat := by decide

/-- Every word meets one of the three verdicts. -/
theorem verdict : ∀ (f : Fields) (cycle : Nat), Verdict f cycle
  | ⟨k, z, d, a⟩, cycle => by
    by_cases hz : z = 0
    · subst hz
      obtain rfl | rfl | rfl | rfl | rfl | rfl | rfl | rfl | rfl | rfl | hk := kind_cases k
      · exact verdict_read d a cycle
      · exact verdict_write d a cycle
      · exact verdict_patternRead d a cycle
      · exact verdict_patternWrite d a cycle
      · exact verdict_cpuCycle d a cycle
      · exact verdict_ppuCycle d a cycle
      · exact verdict_amplitude d a cycle
      · exact verdict_reset d a cycle
      · exact verdict_mask d a cycle
      · exact verdict_debugRead d a cycle
      · exact verdict_unknownKind hk d a cycle
    · have hz' : ¬ z.toNat = 0 := fun h => hz (BitVec.eq_of_toNat_eq h)
      exact .illegal (fun h => hz' (by simpa using h.1)) _ (if_pos hz) rfl

/-- A word that decodes has the fields of its operation. -/
theorem decode_encodesTo {w : OpWord} {cycle : Nat} {i : Instr} (h : decode w cycle = .ok i) :
    EncodesTo i (fieldsOf w) cycle := by
  have hd : decodeFields (fieldsOf w) cycle = .ok i := h
  obtain ⟨-, e, he, -⟩ | ⟨-, -, he⟩ | ⟨-, -, j, hj, hf⟩ := verdict (fieldsOf w) cycle
  · rw [hd] at he; cases he
  · rw [hd] at he; cases he
  · rw [hd] at hj; cases hj; exact hf

/-! ### The words of the unit's operations -/

/-- Settles O1: the fields of each operation decode to it, the addresses of the bus by their dispatch. -/
theorem encodedOperationDecodesBack : Obligations.EncodedOperationDecodesBack := fun _ h => decode_encode h

/-- Settles O2: each row of the decoder, and of its two dispatches, answers an operation with the fields it
was given. -/
theorem decodedWordEncodesBack : Obligations.DecodedWordEncodesBack := by
  intro w cycle i h
  obtain ⟨hwf, hfields, hside⟩ := decode_encodesTo h
  exact ⟨hwf, by rw [encode, hfields, packFields_fieldsOf], hside⟩

theorem step_of_calls_nil {s : State} (h : s.calls = []) : step s = .next s := by simp only [step, h]

theorem step_of_decode_ok {s : State} {c : Call} {rest : List Call} {i : Instr} (h : s.calls = c :: rest)
    (hi : decode c.word c.cycle = .ok i) : step s = exec i { s with calls := rest } := by simp only [step, h, hi]

theorem step_of_decode_error {s : State} {c : Call} {rest : List Call} {e : DecodeError} (h : s.calls = c :: rest)
    (he : decode c.word c.cycle = .error e) : step s = .refused (refusalOf e) := by simp only [step, h, he]

/-- Settles O3: the step answers the verdict of the word, and the three verdicts exclude each other. -/
theorem wordsRefusedExactly : Obligations.WordsRefusedExactly := by
  intro w cycle rest s hs
  have hv := verdict (fieldsOf w) cycle
  obtain ⟨hlegal, e, he, hr⟩ | ⟨hlegal, hout, he⟩ | ⟨hlegal, hout, i, hi, -⟩ := hv <;>
    rw [packFields_fieldsOf] at hlegal
  · have hstep := step_of_decode_error hs he
    rw [hr] at hstep
    exact ⟨fun _ => hstep, fun h => absurd h hlegal, fun h => absurd h hlegal⟩
  · rw [packFields_fieldsOf] at hout
    exact ⟨fun h => absurd hlegal h, fun _ _ => step_of_decode_error hs he, fun _ h => absurd hout h⟩
  · rw [packFields_fieldsOf] at hout
    exact ⟨fun h => absurd hlegal h, fun _ h => absurd h hout, fun _ _ => ⟨i, hi, step_of_decode_ok hs hi⟩⟩

/-- Settles O4: each word is closed, so the decoder evaluates it. -/
theorem specWordsDecode : Obligations.SpecWordsDecode := by
  unfold Obligations.SpecWordsDecode
  decide

/-- Settles O5: the three cases of a step. -/
theorem stepRunsTheDecodedCall : Obligations.StepRunsTheDecodedCall := fun _ =>
  ⟨step_of_calls_nil, fun _ _ _ => step_of_decode_ok, fun _ _ _ => step_of_decode_error⟩

/-- Settles O6: both low calls test the range before they do anything. -/
theorem callsBelowTheLowRangeRefused : Obligations.CallsBelowTheLowRangeRefused := by
  intro addr v s h
  have hbelow : belowLowRange addr = true := decide_eq_true h
  exact ⟨if_pos hbelow, if_pos hbelow⟩

end Sys2Proof.Machine
end

section
/-!
What each operation that answers leaves of the state: the inversion of `exec` that the statements about all operations
rest on.
-/
namespace Sys2Proof.Machine

open Sys2Proof.Claims

/-! ### The families of operations -/

/-- The operations that change nothing but their answer: every read but that of `$5204`, and the ignored write. -/
inductive ChangesNothing : Instr → Prop where
  | brSndStatus : ChangesNothing .brSndStatus
  | brMulLo : ChangesNothing .brMulLo
  | brMulHi : ChangesNothing .brMulHi
  | brPrgRamLo (off : BitVec 13) : ChangesNothing (.brPrgRamLo off)
  | brHigh (a : BitVec 15) : ChangesNothing (.brHigh a)
  | brUndriven (addr : CpuAddr) : ChangesNothing (.brUndriven addr)
  | bwUnmapped (addr : CpuAddr) (v : Byte) : ChangesNothing (.bwUnmapped addr v)
  | pr (a : PatternAddr) : ChangesNothing (.pr a)
  | dr (addr : CpuAddr) : ChangesNothing (.dr addr)

/-- The writes of a register that only stores, by their index (spec/46_register_bank_misc.md R382). -/
inductive StoresOnly (v : Byte) : Instr → Fin 44 → Prop where
  | bwExramMode : StoresOnly v (.bwExramMode v) rExramMode
  | bwFill (r : FillReg) : StoresOnly v (.bwFill r v) (rFill r)
  | bwSplit (r : SplitReg) : StoresOnly v (.bwSplit r v) (rSplit r)
  | bwSplitBank : StoresOnly v (.bwSplitBank v) rSplitBank

/-- The writes of a Square channel's registers, by their index and their effect on the channel
(spec/43_apu_channels.md R260 to R263). -/
inductive WritesSquare (c : Square) (v : Byte) : Instr → Fin 4 → (SquareChan → SquareChan) → Prop where
  | bwSqCtrl : WritesSquare c v (.bwSqCtrl c v) 0 (squareControl v)
  | bwSqSweep : WritesSquare c v (.bwSqSweep c v) 1 (squareSweepWrite v)
  | bwSqTlo : WritesSquare c v (.bwSqTlo c v) 2 (squareTimerLow v)
  | bwSqLen : WritesSquare c v (.bwSqLen c v) 3 (squareLength v)

/-- PRG-RAM as it was, or after the write of one byte the RAM has. -/
def RamWritten (m m' : Memory) : Prop :=
  m' = m ∨ ∃ off v, off / 8192 < Config.params.prgRamPages ∧ m' = Memory.write Config.params.prgRamPowerOn m off v

/-- CHR memory as it was, or after the write of one byte it has. -/
def ChrWritten (m m' : Memory) : Prop :=
  m' = m ∨ ∃ off v, off < Config.params.chrPages * 1024 ∧ m' = Memory.write Config.params.chrRamPowerOn m off v

/-- The clocks of a CPU cycle, before its samples (`clocks_eq`). -/
def clocked (p : Params) (s : State) : State :=
  { s with
    sq1 := cycleChannel p .sq1 s s.sq1
    sq2 := cycleChannel p .sq2 s s.sq2
    apuParity := !s.apuParity
    frameCtr := if s.frameCtr + 1 = p.quarterPeriod then 0 else s.frameCtr + 1
    quarterCount := if s.frameCtr + 1 = p.quarterPeriod then
        (if s.quarterCount + 1 = p.halfDiv then 0 else s.quarterCount + 1) else s.quarterCount }

/-- The line after a PPU cycle that leaves the status byte `status` (`syncPpu_eq`). -/
def lineAfter (p : Params) (cycle : Nat) (s : State) (status : Byte) : Bool :=
  if s.irqEnable && status.getLsbD 7 then true
  else if p.cycleToRasterLine cycle < p.lineP then false else s.irqLine

/-- The state an operation leaves, family by family. -/
inductive Effect (s : State) : Instr → State → Prop where
  | nothing {i : Instr} (hi : ChangesNothing i) (r : Reply) (d : Nat) :
      Effect s i { s with reply := r, extCalls := [], drawCtr := d }
  | lowRam (off : BitVec 13) (v : Byte) (m : Memory) (hm : RamWritten s.prgRam m) :
      Effect s (.bwPrgRamLo off v) { quiet s with prgRam := m }
  | highRam (a : BitVec 15) (v : Byte) (m : Memory) (hm : RamWritten s.prgRam m) :
      Effect s (.bwHigh a v) { quiet s with prgRam := m }
  | chrMem (a : PatternAddr) (v : Byte) (m : Memory) (hm : ChrWritten s.chrMem m) :
      Effect s (.pw a v) { quiet s with chrMem := m }
  | storesOnly {i : Instr} {v : Byte} {k : Fin 44} (hi : StoresOnly v i k) : Effect s i (stored k v s)
  | ntMap (v : Byte) :
      Effect s (.bwNtMap v) { stored 16 v s with
        extCalls := [.mirrorConfigure (quadrant v 0) (quadrant v 1) (quadrant v 2) (quadrant v 3)] }
  | prgMode (v : Byte) :
      Effect s (.bwPrgMode v) (rederivePrg Config.params { stored 11 v s with prgMode := lowField v })
  | prgBank (r : BitVec 2) (v : Byte) :
      Effect s (.bwPrgBank r v) (rederivePrg Config.params (stored (rPrgBank r) v s))
  | prgRamPage (v : Byte) :
      Effect s (.bwPrgRamPage v) { stored 19 v s with lowRamPage := ramPage Config.params v.toNat }
  | chrMode (v : Byte) :
      Effect s (.bwChrMode v) (chrModeWritten Config.params { stored 12 v s with chrMode := lowField v })
  | chrBank {i : Instr} {r : Fin 12} {v : Byte}
      (hi : (∃ k : BitVec 3, i = .bwChrBankSpr k v ∧ r.val = k.toNat) ∨
        (∃ k : BitVec 2, i = .bwChrBankBg k v ∧ r.val = 8 + k.toNat)) :
      Effect s i { stored (rChrBank r) v s with
        chrHi := s.chrHi.set r.val s.chrHigh
        chrSlot := chrApplied s.chrMode r (s.chrHigh.toNat * 256 + v.toNat) s.chrSlot }
  | chrHigh (v : Byte) : Effect s (.bwChrHigh v) { stored 36 v s with chrHigh := lowField v }
  | protA (v : Byte) : Effect s (.bwProtA v) { stored 13 v s with protA := lowField v }
  | protB (v : Byte) : Effect s (.bwProtB v) { stored 14 v s with protB := lowField v }
  | irqTarget (v : Byte) : Effect s (.bwIrqTarget v) { stored 40 v s with irqTarget := v }
  | irqEnable (v : Byte) : Effect s (.bwIrqEnable v) { stored 41 v s with irqEnable := topBit v }
  | irqStatus :
      Effect s .brIrqStatus { answered s.irqStatus s with
        irqStatus := s.irqStatus &&& 0x7F#8, irqLine := false, extCalls := [.releaseInterrupt] }
  | mulA (v : Byte) : Effect s (.bwMulA v) { stored 42 v s with mulA := v, product := product8 v s.mulB }
  | mulB (v : Byte) : Effect s (.bwMulB v) { stored 43 v s with mulB := v, product := product8 s.mulA v }
  | square {i : Instr} {c : Square} {v : Byte} {k : Fin 4} {f : SquareChan → SquareChan} (hi : WritesSquare c v i k f) :
      Effect s i { stored (rSquare c k) v s with
        sq1 := if c = .sq1 then f s.sq1 else s.sq1
        sq2 := if c = .sq2 then f s.sq2 else s.sq2 }
  | dmcCtrl (v : Byte) : Effect s (.bwDmcCtrl v) { stored 8 v s with dmcCtrl := v }
  | dmcDac (v : Byte) :
      Effect s (.bwDmcDac v) { stored 9 v s with dmcDac := v &&& Config.params.dmcMask }
  | sndEn (v : Byte) :
      Effect s (.bwSndEn v) { stored 10 v s with
        sq1 := squareEnable (v.getLsbD 0) s.sq1
        sq2 := squareEnable (v.getLsbD 1) s.sq2 }
  | mask (m : BitVec 3) : Effect s (.mkMask m) { quiet s with chanMask := m }
  | cpuCycle : Effect s .sc (appendSamples Config.params (clocked Config.params (quiet s)))
  | ppuCycle (cycle : Nat) (a : BitVec 14) (xs : List ExtCall) :
      Effect s (.sp cycle a) { quiet s with
        ppuCycle := cycle
        irqStatus := syncStatus Config.params cycle s
        irqLine := lineAfter Config.params cycle s (syncStatus Config.params cycle s)
        extCalls := xs }
  | amplitude :
      Effect s .am { drain s with
        mixPrev := nextSample Config.params s, reply := .sample (nextSample Config.params s), extCalls := [] }
  | reset (soft : Bool) : Effect s (.rs soft) (resetKeeping s)

/-! ### Every operation that answers has its family's effect -/

theorem completeRead_effect {i : Instr} (hi : ChangesNothing i) {b : Option Byte} {s t : State}
    (h : completeRead b (startCall s) = .next t) : Effect s i t := by
  obtain ⟨v, -, rfl⟩ := (completeRead_eq_next ..).1 h
  exact .nothing hi _ _

theorem execBrUndriven_effect {addr : CpuAddr} {s t : State} (h : execBrUndriven addr s = .next t) :
    Effect s (.brUndriven addr) t := by
  unfold execBrUndriven at h
  split at h
  · cases h
  · cases h; exact .nothing (.brUndriven addr) _ _

theorem execBwUnmapped_effect {addr : CpuAddr} {v : Byte} {s t : State} (h : execBwUnmapped addr v s = .next t) :
    Effect s (.bwUnmapped addr v) t := by
  unfold execBwUnmapped at h
  split at h
  · cases h
  · cases h; exact .nothing (.bwUnmapped addr v) _ _

theorem execPr_effect {a : PatternAddr} {s t : State} (h : execPr a s = .next t) : Effect s (.pr a) t := by
  unfold execPr at h
  split at h
  · cases h; exact .nothing (.pr a) _ _
  · cases h; exact .nothing (.pr a) _ _

theorem execBwPrgRamLo_effect {off : BitVec 13} {v : Byte} {s t : State} (h : execBwPrgRamLo off v s = .next t) :
    Effect s (.bwPrgRamLo off v) t := by
  obtain ⟨u, hu, rfl⟩ := (completeWrite_eq_next ..).1 h
  obtain rfl | ⟨hpage, rfl⟩ := lowRamWrite_eq_some hu
  · exact .lowRam off v _ (.inl rfl)
  · exact .lowRam off v _ (.inr ⟨_, _, hpage, rfl⟩)

theorem execBwHigh_effect {a : BitVec 15} {v : Byte} {s t : State} (h : execBwHigh a v s = .next t) :
    Effect s (.bwHigh a v) t := by
  obtain ⟨u, hu, rfl⟩ := (completeWrite_eq_next ..).1 h
  obtain rfl | ⟨hpage, rfl⟩ := prgWindowWrite_eq_some hu
  · exact .highRam a v _ (.inl rfl)
  · exact .highRam a v _ (.inr ⟨_, _, hpage, rfl⟩)

theorem execPw_effect {a : PatternAddr} {v : Byte} {s t : State} (h : execPw a v s = .next t) :
    Effect s (.pw a v) t := by
  cases h
  obtain h | h := chrWindowWrite_eq Config.params a v (startCall s)
  · rw [h]; exact .chrMem a v _ (.inl rfl)
  · rw [h]; exact .chrMem a v _ (.inr ⟨_, _, chrOffset_lt .., rfl⟩)

theorem execSc_effect {s t : State} (h : execSc s = .next t) : Effect s .sc t := by
  cases h
  rw [syncCpu, clocks_eq]
  exact .cpuCycle

theorem execSp_effect {cycle : Nat} {a : BitVec 14} {s t : State} (h : execSp cycle a s = .next t) :
    Effect s (.sp cycle a) t := by
  cases h
  rw [syncPpu_eq]
  exact .ppuCycle cycle a _

theorem exec_effect {i : Instr} {s t : State} (h : exec i s = .next t) : Effect s i t := by
  cases i with
  | brPrgRamLo off => exact completeRead_effect (.brPrgRamLo off) h
  | brHigh a => exact completeRead_effect (.brHigh a) h
  | brUndriven addr => exact execBrUndriven_effect h
  | bwUnmapped addr v => exact execBwUnmapped_effect h
  | pr a => exact execPr_effect h
  | brSndStatus => cases h; exact .nothing .brSndStatus _ _
  | brMulLo => cases h; exact .nothing .brMulLo _ _
  | brMulHi => cases h; exact .nothing .brMulHi _ _
  | dr addr => cases h; exact .nothing (.dr addr) _ _
  | bwPrgRamLo off v => exact execBwPrgRamLo_effect h
  | bwHigh a v => exact execBwHigh_effect h
  | pw a v => exact execPw_effect h
  | sc => exact execSc_effect h
  | sp cycle a => exact execSp_effect h
  | am => cases h; exact .amplitude
  | rs soft => rw [exec_rs] at h; cases h; exact .reset soft
  | mkMask m => cases h; exact .mask m
  | brIrqStatus => cases h; exact .irqStatus
  | bwExramMode v => cases h; exact .storesOnly .bwExramMode
  | bwFill r v => cases h; exact .storesOnly (.bwFill r)
  | bwSplit r v => cases h; exact .storesOnly (.bwSplit r)
  | bwSplitBank v => cases h; exact .storesOnly .bwSplitBank
  | bwNtMap v => cases h; exact .ntMap v
  | bwPrgMode v => cases h; exact .prgMode v
  | bwPrgBank r v => cases h; exact .prgBank r v
  | bwPrgRamPage v => cases h; exact .prgRamPage v
  | bwChrMode v => cases h; exact .chrMode v
  | bwChrBankBg r v =>
    cases h; rw [writeChrBank_eq]; exact .chrBank (.inr ⟨r, rfl, rfl⟩)
  | bwChrBankSpr r v =>
    cases h; rw [writeChrBank_eq]; exact .chrBank (.inl ⟨r, rfl, rfl⟩)
  | bwChrHigh v => cases h; exact .chrHigh v
  | bwProtA v => cases h; exact .protA v
  | bwProtB v => cases h; exact .protB v
  | bwIrqTarget v => cases h; exact .irqTarget v
  | bwIrqEnable v => cases h; exact .irqEnable v
  | bwMulA v => cases h; exact .mulA v
  | bwMulB v => cases h; exact .mulB v
  | bwSqCtrl c v => cases c <;> cases h <;> exact .square .bwSqCtrl
  | bwSqSweep c v => cases c <;> cases h <;> exact .square .bwSqSweep
  | bwSqTlo c v => cases c <;> cases h <;> exact .square .bwSqTlo
  | bwSqLen c v => cases c <;> cases h <;> exact .square .bwSqLen
  | bwDmcCtrl v => cases h; exact .dmcCtrl v
  | bwDmcDac v => cases h; exact .dmcDac v
  | bwSndEn v => cases h; exact .sndEn v

end Sys2Proof.Machine
end

section
/-!
The statements over all operations about the memories, the reads and the interrupt line (spec/20_memory.md R86,
spec/10_state.md R55, spec/42_irq_scanline.md R234, R237).
-/
namespace Sys2Proof.Machine

open Sys2Proof.Claims

/-! ### The memories and the reads -/

/-- Settles O59: of all effects only those of the RAM writes and of the pattern write hold another memory. -/
theorem onlyRamWritesChangeMemory : Obligations.OnlyRamWritesChangeMemory := by
  intro i s t h
  cases exec_effect h with
  | lowRam off v m hm => exact ⟨fun hlow _ => absurd rfl (hlow off v), fun _ => rfl⟩
  | highRam a v m hm => exact ⟨fun _ hhigh => absurd rfl (hhigh a v), fun _ => rfl⟩
  | chrMem a v m hm => exact ⟨fun _ _ => rfl, fun hpw => absurd rfl (hpw a v)⟩
  | _ => exact ⟨fun _ _ => rfl, fun _ => rfl⟩

/-- A read through a memory window answers the same again: it has changed no memory and no window. -/
theorem completeRead_again {b : Option Byte} {s t : State} (h : completeRead b (startCall s) = .next t) :
    completeRead b (startCall t) = .next t := by
  obtain ⟨v, rfl, rfl⟩ := (completeRead_eq_next ..).1 h
  rfl

theorem completeDraw_drawCtr {p : Params} {s t : State} (h : completeDraw p (startCall s) = .next t) :
    t.drawCtr = s.drawCtr + 1 := by
  cases h
  rfl

/-- An operation that changes nothing, and did not draw, answers the same again. -/
theorem exec_again {i : Instr} (hi : ChangesNothing i) {s t : State} (h : exec i s = .next t)
    (hd : t.drawCtr = s.drawCtr) : exec i t = .next t := by
  have hno_draw : ∀ p, completeDraw p (startCall s) ≠ .next t := fun p hp => by
    have := completeDraw_drawCtr hp
    omega
  cases hi with
  | brSndStatus | brMulLo | brMulHi | dr addr => cases h; rfl
  | brPrgRamLo off | brHigh a =>
    obtain ⟨v, -, rfl⟩ := (completeRead_eq_next ..).1 h
    exact completeRead_again h
  | brUndriven addr =>
    change execBrUndriven addr s = .next t at h
    unfold execBrUndriven at h
    split at h
    · cases h
    · exact absurd h (hno_draw _)
  | bwUnmapped addr v =>
    change execBwUnmapped addr v s = .next t at h
    unfold execBwUnmapped at h
    split at h
    · cases h
    next hlow => cases h; exact if_neg hlow
  | pr a =>
    change execPr a s = .next t at h
    unfold execPr at h
    split at h
    · exact absurd h (hno_draw _)
    next hsplit => cases h; exact if_neg hsplit

/-- The effect of an operation that changes nothing. -/
theorem Effect.of_changesNothing {i : Instr} {s t : State} (hi : ChangesNothing i) (h : Effect s i t) :
    ∃ r d, t = { s with reply := r, extCalls := [], drawCtr := d } := by
  cases h with
  | nothing _ r d => exact ⟨r, d, rfl⟩
  | storesOnly hs | square hs => cases hs <;> cases hi
  | chrBank hb => obtain ⟨k, rfl, -⟩ | ⟨k, rfl, -⟩ := hb <;> cases hi
  | _ => cases hi

/-- Settles O55: such a read has the effect of an operation that changes nothing, and its byte depends on no field it
writes. -/
theorem otherReadsHaveNoSideEffect : Obligations.OtherReadsHaveNoSideEffect := by
  intro i s t hi h
  have hnothing : ChangesNothing i := by
    obtain rfl | rfl | rfl | ⟨off, rfl⟩ | ⟨a, rfl⟩ | ⟨a, rfl⟩ | ⟨a, rfl⟩ | ⟨a, rfl⟩ := hi <;> constructor
  refine ⟨?_, exec_again hnothing h⟩
  obtain ⟨r, d, rfl⟩ := (exec_effect h).of_changesNothing hnothing
  rfl

/-! ### The interrupt line (spec/42_irq_scanline.md R234) -/

/-- Where an operation leaves the line and calls neither the assertion nor the release, it is no matter which it is. -/
theorem line_untouched {s t : State} {P Q : Prop} (hline : t.irqLine = s.irqLine)
    (hcalls : .assertInterrupt ∉ t.extCalls ∧ .releaseInterrupt ∉ t.extCalls) :
    ((t.irqLine = true ∧ s.irqLine = false ∨ .assertInterrupt ∈ t.extCalls) → P) ∧
      ((t.irqLine = false ∧ s.irqLine = true ∨ .releaseInterrupt ∈ t.extCalls) → Q) := by
  simp [hline, hcalls]

/-- Settles O36: every effect but those of the three operations keeps the line and makes neither external call. -/
theorem onlyPpuCyclesAssertTheLine : Obligations.OnlyPpuCyclesAssertTheLine := by
  intro i s t h
  cases exec_effect h with
  | ppuCycle cycle a xs => exact ⟨fun _ => ⟨cycle, a, rfl⟩, fun _ => .inl ⟨cycle, a, rfl⟩⟩
  | irqStatus => exact ⟨by simp, fun _ => .inr (.inl rfl)⟩
  | reset soft => exact ⟨by simp [resetKeeping, State.reset], fun _ => .inr (.inr ⟨soft, rfl⟩)⟩
  | ntMap v => exact line_untouched rfl ⟨by simp, by simp⟩
  | _ => exact line_untouched rfl ⟨List.not_mem_nil, List.not_mem_nil⟩

/-- A PPU cycle that leaves the line asserted leaves pending set, if an asserted line was pending before it. -/
theorem syncStatus_lineAfter {p : Params} {cycle : Nat} {s : State} (hs : LineImpliesPending s)
    (h : lineAfter p cycle s (syncStatus p cycle s) = true) : (syncStatus p cycle s).getLsbD 7 = true := by
  unfold lineAfter at h
  split_ifs at h with hdrive
  · exact (Bool.and_eq_true_iff.1 hdrive).2
  · have hp : s.irqStatus.getLsbD 7 = true := hs h
    rw [syncStatus_pending, hp, Bool.true_or]

theorem exec_lineImpliesPending {i : Instr} {s t : State} (hs : LineImpliesPending s) (h : exec i s = .next t) :
    LineImpliesPending t := by
  cases exec_effect h with
  | ppuCycle cycle a xs => exact syncStatus_lineAfter hs
  | irqStatus | reset soft => exact fun hline => by cases hline
  | _ => exact hs

/-- Settles O34: a PPU cycle drives the line only while pending and never clears pending; the status read and the reset,
which clear it, release the line; every other operation leaves both. -/
theorem assertedLineStaysPending : Obligations.AssertedLineStaysPending :=
  ⟨fun h => (by cases h), fun _ _ hs h =>
    step_keeps (P := LineImpliesPending) (fun _ _ hp => hp) (fun _ _ _ => exec_lineImpliesPending) hs h⟩

/-! ### An acknowledge on the target line (spec/42_irq_scanline.md R237) -/

theorem targetMatches_of_no_column {p : Params} {cycle : Nat} {s : State} (hp : p.irqMatchColumn = none)
    (hpos : 0 < s.irqTarget.toNat) (hline : p.cycleToRasterLine cycle = s.irqTarget.toNat) :
    targetMatches p cycle s = true := by
  simp [targetMatches, hp, hpos, hline]

/-- A PPU cycle on a matched line leaves pending set, and the line asserted where enabled. -/
theorem syncPpu_of_match {p : Params} {cycle : Nat} {s : State} (h : targetMatches p cycle s = true) :
    isPending (syncPpu p cycle s) = true ∧ (s.irqEnable = true → (syncPpu p cycle s).irqLine = true) := by
  have hpending : (syncStatus p cycle s).getLsbD 7 = true := by rw [syncStatus_pending, h, Bool.or_true]
  rw [syncPpu_eq]
  refine ⟨hpending, fun henable => ?_⟩
  simp [henable, hpending]

/-- Settles O35: the acknowledge clears pending and the line but not the target, so the next cycle matches again. -/
theorem acknowledgeOnTheTargetLineIsUndone : Obligations.AcknowledgeOnTheTargetLineIsUndone := by
  intro p c d s hp hpos hc hd
  refine ⟨_, exec_brIrqStatus _, by simp [isPending], rfl, ?_⟩
  rw [syncPpu_eq p c]
  exact syncPpu_of_match (targetMatches_of_no_column hp hpos hd)

end Sys2Proof.Machine
end

section
/-!
The bank tables at every step: the PRG windows, the low RAM page and the CHR slots stay the derived ones
(spec/40_bank_switch.md R143, R146, R147, R165, R166), and PRG-RAM through its two windows
(spec/41_write_protect.md R206).
-/
namespace Sys2Proof.Machine

open Sys2Proof.Claims

/-! ### A raw register after a register write -/

theorem getReg_of_reg_set {s t : State} {k : Fin 44} {v : Byte} (h : t.reg = s.reg.set k.val v) :
    getReg t k = v := by
  simp [getReg, h]

theorem getReg_of_reg_set_ne {s t : State} {j k : Fin 44} {v : Byte} (h : t.reg = s.reg.set k.val v)
    (hjk : j.val ≠ k.val) : getReg t j = getReg s j := by
  simp [getReg, h, Vector.getElem_set_ne _ _ hjk.symm]

/-- The stored-only registers by their index: none from which a bank table is derived. -/
theorem StoresOnly.index {v : Byte} {i : Instr} {k : Fin 44} (h : StoresOnly v i k) :
    k.val = 15 ∨ k.val = 17 ∨ k.val = 18 ∨ k.val = 37 ∨ k.val = 38 ∨ k.val = 39 := by
  cases h with
  | bwFill r => cases r <;> decide
  | bwSplit r => cases r <;> decide
  | _ => decide

theorem rSquare_lt (c : Square) (k : Fin 4) : (rSquare c k).val < 8 := by
  cases c <;> simp only [rSquare] <;> omega

/-! ### The PRG windows (spec/40_bank_switch.md R143, R145 to R147) -/

/-- Settles O17: PRG_RAM_PAGES is a power of two, and a remainder is below its positive divisor. -/
theorem ramPageWrapIsAMask : Obligations.RamPageWrapIsAMask := by
  intro p x
  obtain ⟨n, -, hn⟩ := p.prgRamPages_pow
  refine ⟨?_, ?_, Nat.mod_lt x p.prgRomPages_pos⟩
  · rw [ramPage, hn, Nat.and_two_pow_sub_one_eq_mod]
  · exact Nat.mod_lt x (hn ▸ Nat.two_pow_pos n)

/-- A window depends on the bank byte of the register that drives it alone. -/
theorem schemeWindows_congr {m : BitVec 2} {w : Fin 4} {r4 r5 r6 r7 r4' r5' r6' r7' : Byte}
    (h4 : drivesWindow m.toNat 0 w.val → r4' = r4) (h5 : drivesWindow m.toNat 1 w.val → r5' = r5)
    (h6 : drivesWindow m.toNat 2 w.val → r6' = r6) (h7 : drivesWindow m.toNat 3 w.val → r7' = r7) :
    (schemeWindows m.toNat r4' r5' r6' r7')[w.val] = (schemeWindows m.toNat r4 r5 r6 r7)[w.val] := by
  obtain rfl | rfl | rfl | rfl := bitVec_two_cases m <;> fin_cases w <;>
    simp_all [schemeWindows, drivesWindow]

theorem prgWin_of_derived {s : State} (hs : PrgTableDerived s) :
    s.prgWin = schemeWindows s.prgMode.toNat s.reg[20] s.reg[21] s.reg[22] s.reg[23] :=
  hs.trans (derivePrg_eq_schemeWindows ..)

/-- Settles O14: the windows before and after are the derived ones of bank bytes that differ at the written register
alone. -/
theorem inactivePrgWriteLeavesTheWindows : Obligations.InactivePrgWriteLeavesTheWindows := by
  intro r v s hs
  refine ⟨_, prgBankWriteDerivesTheWindows r v s, rfl, fun w hw => ?_⟩
  simp only [prgWin_of_derived hs]
  have hne {k : BitVec 2} (hk : drivesWindow s.prgMode.toNat k.toNat w.val) : r ≠ k := fun h => hw (h ▸ hk)
  exact schemeWindows_congr (fun h => if_neg (hne (k := 0) h)) (fun h => if_neg (hne (k := 1) h))
    (fun h => if_neg (hne (k := 2) h)) (fun h => if_neg (hne (k := 3) h))

/-- The windows stay the derived ones where they, their mode and their four bank registers are as before. -/
theorem prgTableDerived_of_same {s t : State} (hs : PrgTableDerived s) (hwin : t.prgWin = s.prgWin)
    (hmode : t.prgMode = s.prgMode) (hreg : ∀ k : Fin 44, 20 ≤ k.val ∧ k.val ≤ 23 → getReg t k = getReg s k) :
    PrgTableDerived t := by
  have hderived : derivedPrg Config.params t = derivedPrg Config.params s := by
    simp only [derivedPrg, hmode, hreg rPrg8000 (by decide), hreg rPrgA000 (by decide), hreg rPrgC000 (by decide),
      hreg rPrgE000 (by decide)]
  exact hwin.trans (hs.trans hderived.symm)

/-- A write of any other register leaves the table derived. -/
theorem prgTableDerived_of_reg_set {s t : State} {k : Fin 44} {v : Byte} (hk : k.val < 20 ∨ 23 < k.val)
    (hreg : t.reg = s.reg.set k.val v) (hwin : t.prgWin = s.prgWin) (hmode : t.prgMode = s.prgMode)
    (hs : PrgTableDerived s) : PrgTableDerived t :=
  prgTableDerived_of_same hs hwin hmode fun j hj => getReg_of_reg_set_ne hreg (by omega)

theorem rederivePrg_prgTableDerived (s : State) : PrgTableDerived (rederivePrg Config.params s) :=
  (derivedPrg_congr _ rfl rfl).symm

theorem reset_prgTableDerived (s : State) : PrgTableDerived (resetKeeping s) := (derivedPrg_resetRegisters s).symm

theorem exec_prgTableDerived {i : Instr} {s t : State} (hs : PrgTableDerived s) (h : exec i s = .next t) :
    PrgTableDerived t := by
  cases exec_effect h with
  | prgMode v | prgBank r v => exact rederivePrg_prgTableDerived _
  | reset soft => exact reset_prgTableDerived s
  | nothing hi r d => exact hs
  | lowRam off v m hm | highRam off v m hm | chrMem a v m hm => exact hs
  | irqStatus | mask m | cpuCycle | ppuCycle cycle a xs | amplitude => exact hs
  | storesOnly hi =>
    have := hi.index
    exact prgTableDerived_of_reg_set (by omega) rfl rfl rfl hs
  | @chrBank i r v hi =>
    exact prgTableDerived_of_reg_set (k := rChrBank r) (.inr (by simp only [rChrBank]; omega)) rfl rfl rfl hs
  | @square i c v k f hi =>
    have := rSquare_lt c k
    exact prgTableDerived_of_reg_set (k := rSquare c k) (by omega) rfl rfl rfl hs
  | _ => exact prgTableDerived_of_reg_set (by decide) rfl rfl rfl hs

/-- Settles O15: the PRG mode and bank writes and the reset derive the table, and no other operation touches it, its
mode or its bank registers. -/
theorem prgTableStaysDerived : Obligations.PrgTableStaysDerived :=
  ⟨reset_prgTableDerived State.reset, fun _ _ hs h =>
    step_keeps (P := PrgTableDerived) (fun _ _ hp => hp) (fun _ _ _ => exec_prgTableDerived) hs h⟩

/-! ### The low RAM page (spec/40_bank_switch.md R142) -/

theorem lowRamDerived_of_reg_set {s t : State} {k : Fin 44} {v : Byte} (hk : k.val ≠ 19)
    (hreg : t.reg = s.reg.set k.val v) (hpage : t.lowRamPage = s.lowRamPage) (hs : LowRamDerived s) :
    LowRamDerived t := by
  unfold LowRamDerived
  rw [hpage, getReg_of_reg_set_ne hreg hk.symm]
  exact hs

theorem exec_lowRamDerived {i : Instr} {s t : State} (hs : LowRamDerived s) (h : exec i s = .next t) :
    LowRamDerived t := by
  cases exec_effect h with
  | prgRamPage v => unfold LowRamDerived; rw [getReg_of_reg_set (s := s) (k := rPrg6000) rfl]
  | reset soft => exact (Nat.zero_mod _).symm
  | nothing hi r d => exact hs
  | lowRam off v m hm | highRam off v m hm | chrMem a v m hm => exact hs
  | irqStatus | mask m | cpuCycle | ppuCycle cycle a xs | amplitude => exact hs
  | storesOnly hi =>
    have := hi.index
    exact lowRamDerived_of_reg_set (by omega) rfl rfl hs
  | prgBank r v => exact lowRamDerived_of_reg_set (k := rPrgBank r) (by simp only [rPrgBank]; omega) rfl rfl hs
  | @chrBank i r v hi =>
    exact lowRamDerived_of_reg_set (k := rChrBank r) (by simp only [rChrBank]; omega) rfl rfl hs
  | @square i c v k f hi =>
    have := rSquare_lt c k
    exact lowRamDerived_of_reg_set (k := rSquare c k) (by omega) rfl rfl hs
  | _ => exact lowRamDerived_of_reg_set (by decide) rfl rfl hs

/-! ### The CHR slots (spec/40_bank_switch.md R163 to R165) -/

theorem storedBank_eq (s : State) (r : Fin 12) :
    storedBank s r = s.chrHi[r.val].toNat * 256 + (getReg s (rChrBank r)).toNat := rfl

/-- `DeriveCHR` depends on the mode and the stored bank values alone. -/
theorem derivedChr_congr {s t : State} (hmode : t.chrMode = s.chrMode) (hbank : ∀ r, storedBank t r = storedBank s r) :
    derivedChr t = derivedChr s := by
  ext1 j hj
  rw [derivedChr_getElem t ⟨j, hj⟩, derivedChr_getElem s ⟨j, hj⟩, hmode, hbank]

/-- A write of any other register leaves the slots derived. -/
theorem chrTableDerived_of_reg_set {s t : State} {k : Fin 44} {v : Byte} (hk : k.val < 24 ∨ 35 < k.val)
    (hreg : t.reg = s.reg.set k.val v) (hslot : t.chrSlot = s.chrSlot) (hmode : t.chrMode = s.chrMode)
    (hhi : t.chrHi = s.chrHi) (hs : ChrTableDerived s) : ChrTableDerived t := by
  have hbank (r : Fin 12) : storedBank t r = storedBank s r := by
    have hr : getReg t (rChrBank r) = getReg s (rChrBank r) :=
      getReg_of_reg_set_ne hreg (by simp only [rChrBank]; omega)
    rw [storedBank_eq, storedBank_eq, hr, hhi]
  exact fun hp => hslot.trans ((hs hp).trans (derivedChr_congr hmode hbank).symm)

/-- The stored bank values after a bank write. -/
theorem storedBank_of_bankWrite {s t : State} {r : Fin 12} {v : Byte}
    (hreg : t.reg = s.reg.set (rChrBank r).val v) (hhi : t.chrHi = s.chrHi.set r.val s.chrHigh) (r' : Fin 12) :
    storedBank t r' = if r' = r then s.chrHigh.toNat * 256 + v.toNat else storedBank s r' := by
  rw [storedBank_eq, storedBank_eq]
  by_cases hr : r' = r
  · subst hr
    rw [getReg_of_reg_set hreg, if_pos rfl, hhi, Vector.getElem_set_self]
  · have hval : r'.val ≠ r.val := fun h => hr (Fin.ext h)
    rw [getReg_of_reg_set_ne hreg (by simp only [rChrBank]; omega), if_neg hr, hhi, Vector.getElem_set_ne _ _ hval.symm]

/-- A bank write sets the slots its register drives to the page of the bank value it stores. -/
theorem chrTableDerived_of_bankWrite {s t : State} {r : Fin 12} {v : Byte}
    (hreg : t.reg = s.reg.set (rChrBank r).val v) (hmode : t.chrMode = s.chrMode)
    (hhi : t.chrHi = s.chrHi.set r.val s.chrHigh)
    (hslot : t.chrSlot = chrApplied s.chrMode r (s.chrHigh.toNat * 256 + v.toNat) s.chrSlot)
    (hs : ChrTableDerived s) : ChrTableDerived t := by
  intro hp
  ext1 j hj
  rw [hslot, chrApplied_getElem _ _ _ _ ⟨j, hj⟩, derivedChr_getElem t ⟨j, hj⟩, storedBank_of_bankWrite hreg hhi, hmode]
  split
  · rfl
  · rw [hs hp, derivedChr_getElem s ⟨j, hj⟩]

/-- A mode write that re-derives leaves the slots derived: `DeriveCHR` does not read the slots. -/
theorem chrModeWritten_chrTableDerived (s : State) : ChrTableDerived (chrModeWritten Config.params s) := by
  intro hp
  exact (if_pos hp).trans (derivedChr_congr rfl fun _ => rfl)

theorem reset_chrTableDerived (s : State) : ChrTableDerived (resetKeeping s) := by
  intro _
  exact (derivedChr_resetRegisters s).symm.trans (derivedChr_congr rfl fun _ => rfl)

theorem exec_chrTableDerived {i : Instr} {s t : State} (hs : ChrTableDerived s) (h : exec i s = .next t) :
    ChrTableDerived t := by
  cases exec_effect h with
  | chrMode v => exact chrModeWritten_chrTableDerived _
  | @chrBank i r v hi => exact chrTableDerived_of_bankWrite rfl rfl rfl rfl hs
  | reset soft => exact reset_chrTableDerived s
  | nothing hi r d => exact hs
  | lowRam off v m hm | highRam off v m hm | chrMem a v m hm => exact hs
  | irqStatus | mask m | cpuCycle | ppuCycle cycle a xs | amplitude => exact hs
  | storesOnly hi =>
    have := hi.index
    exact chrTableDerived_of_reg_set (by omega) rfl rfl rfl rfl hs
  | prgBank r v =>
    exact chrTableDerived_of_reg_set (k := rPrgBank r) (.inl (by simp only [rPrgBank]; omega)) rfl rfl rfl rfl hs
  | @square i c v k f hi =>
    have := rSquare_lt c k
    exact chrTableDerived_of_reg_set (k := rSquare c k) (by omega) rfl rfl rfl rfl hs
  | _ => exact chrTableDerived_of_reg_set (by decide) rfl rfl rfl rfl hs

/-- Settles O27: the CHR mode write and the reset derive every slot, a bank write derives the slots its register drives,
and no other operation touches the slots, their mode or a stored bank value. -/
theorem chrTableStaysDerived : Obligations.ChrTableStaysDerived :=
  ⟨reset_chrTableDerived State.reset, fun _ _ hs h =>
    step_keeps (P := ChrTableDerived) (fun _ _ hp => hp) (fun _ _ _ => exec_chrTableDerived) hs h⟩

/-! ### The slots' range (spec/10_state.md R41) -/

/-- A 10-bit bank value gives 13-bit pages. -/
theorem slotValue_le (m : BitVec 2) {bank : Nat} (h : bank ≤ 1023) (j : Fin 12) : slotValue m.toNat bank j ≤ 8191 := by
  obtain rfl | rfl | rfl | rfl := bitVec_two_cases m <;> simp only [slotValue, chrPlace, BitVec.toNat_ofNat] <;> grind

theorem reset_chrSlotsBounded : ChrSlotsBounded State.reset := by
  unfold ChrSlotsBounded
  decide

theorem chrModeWritten_chrSlotsBounded {s : State} (hs : ChrSlotsBounded s) :
    ChrSlotsBounded (chrModeWritten Config.params s) := by
  intro j
  unfold chrModeWritten
  split
  · have hbank (r : Fin 12) : storedBank s r ≤ 1023 := by
      have := (s.chrHi[r.val]).isLt; have := (getReg s (rChrBank r)).isLt
      rw [storedBank_eq]; omega
    exact (derivedChr_getElem s j).trans_le (slotValue_le _ (hbank _) j)
  · exact hs j

theorem chrApplied_le {m hi : BitVec 2} {v : Byte} {slots : Vector Nat 12} (r : Fin 12)
    (hs : ∀ j : Fin 12, slots[j.val] ≤ 8191) (j : Fin 12) :
    (chrApplied m r (hi.toNat * 256 + v.toNat) slots)[j.val] ≤ 8191 := by
  rw [chrApplied_getElem]
  split
  · exact slotValue_le m (by omega) j
  · exact hs j

theorem exec_chrSlotsBounded {i : Instr} {s t : State} (hs : ChrSlotsBounded s) (h : exec i s = .next t) :
    ChrSlotsBounded t := by
  cases exec_effect h with
  | chrMode v => exact chrModeWritten_chrSlotsBounded hs
  | @chrBank i r v hi => exact chrApplied_le r hs
  | reset soft => exact reset_chrSlotsBounded
  | _ => exact hs

/-! ### The same pages in two CHR modes (spec/40_bank_switch.md R166) -/

theorem exec_chrMode_write (v : Byte) {s : State} (hhigh : s.chrHigh = 0) :
    ∃ t, exec (.bwChrMode v) s = .next t ∧ t.chrMode = lowField v ∧ t.chrHigh = 0 :=
  ⟨_, rfl, rfl, hhigh⟩

/-- With the high bits 0, a bank write applies its byte as the bank value. -/
theorem exec_chrBank_write {v : Byte} {r : Fin 12} {i : Instr}
    (hi : (∃ k : BitVec 3, i = .bwChrBankSpr k v ∧ r.val = k.toNat) ∨
      (∃ k : BitVec 2, i = .bwChrBankBg k v ∧ r.val = 8 + k.toNat)) {m : BitVec 2} {s : State} (hmode : s.chrMode = m)
    (hhigh : s.chrHigh = 0) :
    ∃ t, exec i s = .next t ∧ t.chrMode = m ∧ t.chrHigh = 0 ∧ t.chrSlot = chrApplied m r v.toNat s.chrSlot := by
  subst hmode
  rw [exec_chrBankWrite hi, writeChrBank_eq]
  exact ⟨_, rfl, rfl, hhigh, by simp [hhigh, chrApplied]⟩

/-- Two 8 KB selects of page `n` fill the slots with its eight pages. -/
theorem slots_of_8k_selects (n : Nat) (slots : Vector Nat 12) (j : Fin 12) :
    (chrApplied 0 11 n (chrApplied 0 7 n slots))[j.val] = 8 * n + j.val % 8 := by
  simp only [chrApplied_getElem, slotValue, chrDriver, chrPlace, BitVec.ofNat_eq_ofNat, BitVec.toNat_ofNat]
  grind

/-- Three 4 KB selects of the same pages fill them alike. -/
theorem slots_of_4k_selects (n : Nat) (slots : Vector Nat 12) (j : Fin 12) :
    (chrApplied 1 11 (2 * n) (chrApplied 1 7 (2 * n + 1) (chrApplied 1 3 (2 * n) slots)))[j.val] =
      8 * n + j.val % 8 := by
  simp only [chrApplied_getElem, slotValue, chrDriver, chrPlace, BitVec.ofNat_eq_ofNat, BitVec.toNat_ofNat]
  grind

/-- Settles O28: after its mode write each sequence fills all twelve slots, whatever the slots held. -/
theorem chrModesAgreeOnTheSamePages : Obligations.ChrModesAgreeOnTheSamePages := by
  intro n s hn hhigh
  have hbyte {x : Nat} (hx : x ≤ 255) : (BitVec.ofNat 8 x).toNat = x := by rw [BitVec.toNat_ofNat]; omega
  obtain ⟨s1, h1, hm1, hh1⟩ := exec_chrMode_write 0 hhigh
  obtain ⟨s2, h2, hm2, hh2, hslot2⟩ :=
    exec_chrBank_write (v := BitVec.ofNat 8 n) (r := 7) (.inl ⟨7, rfl, rfl⟩) hm1 hh1
  obtain ⟨t, h3, -, -, hslot3⟩ :=
    exec_chrBank_write (v := BitVec.ofNat 8 n) (r := 11) (.inr ⟨3, rfl, rfl⟩) hm2 hh2
  obtain ⟨u1, k1, hm1, hh1⟩ := exec_chrMode_write 1 hhigh
  obtain ⟨u2, k2, hm2, hh2, hfour2⟩ :=
    exec_chrBank_write (v := BitVec.ofNat 8 (2 * n)) (r := 3) (.inl ⟨3, rfl, rfl⟩) hm1 hh1
  obtain ⟨u3, k3, hm3, hh3, hfour3⟩ :=
    exec_chrBank_write (v := BitVec.ofNat 8 (2 * n + 1)) (r := 7) (.inl ⟨7, rfl, rfl⟩) hm2 hh2
  obtain ⟨u, k4, -, -, hfour4⟩ :=
    exec_chrBank_write (v := BitVec.ofNat 8 (2 * n)) (r := 11) (.inr ⟨3, rfl, rfl⟩) hm3 hh3
  have ht (j : Fin 12) : t.chrSlot[j.val] = 8 * n + j.val % 8 := by
    rw [hslot3, hslot2, hbyte (by omega)]
    exact slots_of_8k_selects n s1.chrSlot j
  have hu (j : Fin 12) : u.chrSlot[j.val] = 8 * n + j.val % 8 := by
    rw [hfour4, hfour3, hfour2, hbyte (by omega), hbyte (by omega)]
    exact slots_of_4k_selects n u1.chrSlot j
  refine ⟨t, u, ?_, ?_, ?_, ht⟩
  · rw [runAll_cons_of_next h1, runAll_cons_of_next h2, runAll_cons_of_next h3]; rfl
  · rw [runAll_cons_of_next k1, runAll_cons_of_next k2, runAll_cons_of_next k3, runAll_cons_of_next k4]; rfl
  · ext1 j hj
    exact (ht ⟨j, hj⟩).trans (hu ⟨j, hj⟩).symm

/-! ### PRG-RAM through its two windows (spec/41_write_protect.md R206) -/

/-- Settles O24: the two windows address the same byte, which the write leaves and the read returns. -/
theorem oneRamHasTwoViews : Obligations.OneRamHasTwoViews := by
  intro a off v s hkeys hwin hpage hoff
  constructor
  · obtain ⟨-, hlow, -⟩ := lowRamWriteNeedsBothKeys off v s
    obtain ⟨t, hwrite, hframe, hbyte⟩ := hlow hkeys hpage
    have hwin' : t.prgWin = s.prgWin := by rw [hframe]; rfl
    obtain ⟨-, hread, -⟩ := highReadDereferencesItsWindow a t ⟨.ram, s.lowRamPage⟩ (by simpa only [hwin'] using hwin)
    refine ⟨_, (runAll_cons_of_next hwrite _).trans (runAll_cons_of_next (hread rfl hpage) []), ?_⟩
    exact congrArg Reply.byte ((hbyte _).trans (if_pos (by rw [hoff])))
  · obtain ⟨-, hhigh, -⟩ := highWriteReachesRamOnly a v s ⟨.ram, s.lowRamPage⟩ hwin
    obtain ⟨t, hwrite, hframe, hbyte⟩ := hhigh rfl hpage
    have hpage' : t.lowRamPage = s.lowRamPage := by rw [hframe]; rfl
    obtain ⟨hread, -⟩ := lowRamReadIsUngated off t
    refine ⟨_, (runAll_cons_of_next hwrite _).trans (runAll_cons_of_next (hread (hpage'.trans_lt hpage)) []), ?_⟩
    exact congrArg Reply.byte ((hbyte _).1 ⟨by rw [hpage', hoff], fun _ => hkeys⟩)

end Sys2Proof.Machine
end

section
/-!
The Square channels: the timer, the sweep, the length and the samples, and each channel by itself at every operation
(spec/43_apu_channels.md R269, R272 to R275, R281).
-/
namespace Sys2Proof.Machine

open Sys2Proof.Claims

/-! ### The timer (spec/43_apu_channels.md R269) -/

/-- Adding 7 to a position is a step down, in numbers. -/
theorem seqPos_step (x : BitVec 3) : x + 7#3 = BitVec.ofNat 3 (x.toNat + 7) := by
  apply BitVec.eq_of_toNat_eq
  rw [BitVec.toNat_add, BitVec.toNat_ofNat, BitVec.toNat_ofNat]

theorem timerClock_of_zero {q : SquareChan} (h : q.timerCounter.toNat = 0) :
    timerClock q = { q with timerCounter := q.timerPeriod, seqPos := q.seqPos + 7#3 } :=
  if_pos (BitVec.eq_of_toNat_eq h)

theorem timerClock_of_pos {q : SquareChan} (h : 0 < q.timerCounter.toNat) :
    timerClock q = { q with timerCounter := BitVec.ofNat 11 (q.timerCounter.toNat - 1) } := by
  rw [timerClock, if_neg (fun h0 => by simp [h0] at h), sub_one_eq_ofNat h]

/-- From counter 0, the first clock reloads the counter and makes the step, and the others count down. -/
theorem timerClock_iterate {q : SquareChan} (h0 : q.timerCounter = 0) {n : Nat} (hn : n ≤ q.timerPeriod.toNat) :
    timerClock^[n + 1] q =
      { q with timerCounter := BitVec.ofNat 11 (q.timerPeriod.toNat - n), seqPos := q.seqPos + 7#3 } := by
  induction n with
  | zero =>
    refine (timerClock_of_zero (congrArg BitVec.toNat h0)).trans ?_
    rw [Nat.sub_zero, BitVec.ofNat_toNat, BitVec.setWidth_eq]
  | succ n ih =>
    have hcount : (BitVec.ofNat 11 (q.timerPeriod.toNat - n)).toNat = q.timerPeriod.toNat - n := by
      rw [BitVec.toNat_ofNat]; omega
    rw [Function.iterate_succ_apply', ih (by omega), timerClock_of_pos (by dsimp only; omega)]
    simp only [hcount, Nat.sub_sub]

/-- Settles O42: the two cases of a clock, and their iteration; at `n = t` the counter is 0 again. -/
theorem sequencerStepsOncePerPeriod : Obligations.SequencerStepsOncePerPeriod := by
  refine ⟨fun q => ⟨fun h => ?_, timerClock_of_pos⟩, fun q n hn h0 => ?_⟩
  · have hmod : BitVec.ofNat 3 ((q.seqPos.toNat + 7) % 8) = BitVec.ofNat 3 (q.seqPos.toNat + 7) := by
      rw [← BitVec.toNat_inj, BitVec.toNat_ofNat, BitVec.toNat_ofNat, Nat.mod_mod_of_dvd _ (by decide)]
    rw [timerClock_of_zero h, seqPos_step, hmod]
  · rw [timerClock_iterate h0 hn, timerClock_iterate h0 le_rfl, seqPos_step, Nat.sub_self]
    exact ⟨rfl, rfl, by rw [← show q.timerCounter = BitVec.ofNat 11 0 from h0]⟩

/-! ### The sweep (spec/43_apu_channels.md R272, R273) -/

theorem sweepTarget_eq_sweepGoal (c : Square) (q : SquareChan) : sweepTarget c q = sweepGoal c q := by
  cases c <;> simp [sweepTarget, sweepGoal, sweepChange, Nat.shiftRight_eq_div_pow]

theorem sweepMute_of_no_sweep {p : Params} (h : p.squareSweep = false) (c : Square) (q : SquareChan) :
    sweepMute p c q = false := by simp [sweepMute, h]

theorem sweepMute_iff {p : Params} (h : p.squareSweep = true) (c : Square) (q : SquareChan) :
    sweepMute p c q = true ↔ q.timerPeriod.toNat < 8 ∨ 0x7FF < sweepGoal c q := by
  simp [sweepMute, h, sweepTarget_eq_sweepGoal]

/-- A target the mute admits, by a shift of at least one, lies in the period's range and is at least 3. -/
theorem sweepGoal_range {p : Params} (h : p.squareSweep = true) {c : Square} {q : SquareChan}
    (hshift : q.sweepShift ≠ 0) (hmute : sweepMute p c q = false) : 3 ≤ sweepGoal c q ∧ sweepGoal c q ≤ 0x7FF := by
  have hopen : ¬ (q.timerPeriod.toNat < 8 ∨ 0x7FF < sweepGoal c q) := by
    rw [← sweepMute_iff h, hmute]; decide
  have hhalf : q.timerPeriod.toNat / 2 ^ q.sweepShift.toNat ≤ q.timerPeriod.toNat / 2 := by
    have hpos : 1 ≤ q.sweepShift.toNat := Nat.pos_of_ne_zero fun h0 => hshift (BitVec.eq_of_toNat_eq h0)
    exact Nat.div_le_div_left (Nat.pow_le_pow_right (n := 2) (by decide) hpos) (by decide)
  refine ⟨?_, by omega⟩
  unfold sweepGoal
  generalize q.timerPeriod.toNat / 2 ^ q.sweepShift.toNat = change at hhalf ⊢
  split_ifs <;> omega

theorem sweepFires_iff (p : Params) (c : Square) (q : SquareChan) :
    sweepFires p c q = true ↔
      q.sweepDivider = 0 ∧ q.sweepEn = true ∧ q.sweepShift ≠ 0 ∧ sweepMute p c q = false := by
  simp [sweepFires, and_assoc]

theorem sweepClock_of_sweep {p : Params} (h : p.squareSweep = true) (c : Square) (q : SquareChan) :
    sweepClock p c q =
      { q with
        timerPeriod := if sweepFires p c q then BitVec.ofInt 11 (sweepGoal c q) else q.timerPeriod
        sweepDivider := if q.sweepDivider = 0#3 ∨ q.sweepReload then q.sweepPeriod else q.sweepDivider - 1#3
        sweepReload := false } := by
  rw [sweepClock, if_pos h, sweepTarget_eq_sweepGoal]
  by_cases hr : q.sweepDivider = 0#3 ∨ q.sweepReload <;> simp_all

/-- Settles O44: the clock writes the target where it fires, and a target that is written fits the period. -/
theorem sweepClockWritesTheTarget : Obligations.SweepClockWritesTheTarget := by
  intro p c q
  refine ⟨fun h => ⟨sweepMute_of_no_sweep h c q, by simp [sweepClock, h]⟩, fun h => ⟨sweepMute_iff h c q, _, rfl, ?_⟩⟩
  rw [sweepClock_of_sweep h, ← sweepFires_iff]
  refine ⟨rfl, fun hfires => ?_, fun hfires => if_neg hfires, ?_⟩
  · obtain ⟨-, -, hshift, hmute⟩ := (sweepFires_iff p c q).1 hfires
    obtain ⟨hlow, hhigh⟩ := sweepGoal_range h hshift hmute
    have hperiod : ((BitVec.ofInt 11 (sweepGoal c q)).toNat : Int) = sweepGoal c q := by
      rw [BitVec.toNat_ofInt]; omega
    simp only [if_pos hfires]
    exact ⟨hperiod, by omega⟩
  · dsimp only
    by_cases hd : q.sweepDivider = 0#3 ∨ q.sweepReload = true
    · rw [if_pos hd]; exact (if_pos hd).symm
    · have hpos : 0 < q.sweepDivider.toNat :=
        Nat.pos_of_ne_zero fun h0 => hd (.inl (BitVec.eq_of_toNat_eq h0))
      have hcount : (q.sweepDivider - 1#3).toNat = q.sweepDivider.toNat - 1 := by
        rw [sub_one_eq_ofNat hpos, BitVec.toNat_ofNat]; omega
      rw [if_neg hd, hcount]; exact (if_neg hd).symm

/-! ### The samples (spec/43_apu_channels.md R275, R279) -/

theorem dutyBit_iff (d : BitVec 2) (pos : BitVec 3) : dutyBit d pos = true ↔ dutyOn d.toNat pos.toNat := by
  obtain rfl | rfl | rfl | rfl := bitVec_two_cases d
  · exact (by decide : ∀ pos, dutyBit 0#2 pos = true ↔ pos.toNat = 1) pos
  · exact (by decide : ∀ pos, dutyBit 1#2 pos = true ↔ pos.toNat = 1 ∨ pos.toNat = 2) pos
  · exact (by decide : ∀ pos, dutyBit 2#2 pos = true ↔ 1 ≤ pos.toNat ∧ pos.toNat ≤ 4) pos
  · exact (by decide : ∀ pos, dutyBit 3#2 pos = true ↔ pos.toNat ≠ 1 ∧ pos.toNat ≠ 2) pos

theorem squareAudible_eq (s : State) (c : Square) :
    squareAudible s c = s.chanMask.getLsbD (if c = .sq1 then 0 else 1) := by cases c <;> rfl

/-- The conditions under which a Square sounds (R275). -/
def Sounds (p : Params) (s : State) (c : Square) : Prop :=
  s.chanMask.getLsbD (if c = .sq1 then 0 else 1) = true ∧ (getSquare s c).length ≠ 0 ∧
    sweepMute p c (getSquare s c) = false ∧ dutyOn (getSquare s c).duty.toNat (getSquare s c).seqPos.toNat

theorem sounds_iff (p : Params) (s : State) (c : Square) :
    Sounds p s c ↔ squareAudible s c = true ∧
      ¬ ((getSquare s c).length = 0#8 ∨ sweepMute p c (getSquare s c) = true ∨
        dutyBit (getSquare s c).duty (getSquare s c).seqPos = false) := by
  rw [Sounds, squareAudible_eq, ← dutyBit_iff]
  simp

theorem squareSample_of_sounds {p : Params} {s : State} {c : Square} (h : Sounds p s c) :
    squareSample p s c =
      if (getSquare s c).constVol then (getSquare s c).vol.toNat else (getSquare s c).envDecay.toNat := by
  obtain ⟨haudible, hout⟩ := (sounds_iff p s c).1 h
  rw [squareSample, if_pos haudible, squareOut, if_neg hout]

theorem squareSample_of_silent {p : Params} {s : State} {c : Square} (h : ¬ Sounds p s c) : squareSample p s c = 0 := by
  by_cases haudible : squareAudible s c = true
  · have hout := not_not.1 fun hout => h ((sounds_iff p s c).2 ⟨haudible, hout⟩)
    rw [squareSample, if_pos haudible, squareOut, if_pos hout]
  · rw [squareSample, if_neg haudible]

theorem squareSample_le (p : Params) (s : State) (c : Square) : squareSample p s c ≤ 15 := by
  by_cases h : Sounds p s c
  · rw [squareSample_of_sounds h]; split <;> omega
  · rw [squareSample_of_silent h]; omega

/-- Settles O46: the volume and the decay level are four bits wide. -/
theorem squareSampleIsFourBits : Obligations.SquareSampleIsFourBits := by
  intro p s c
  have h1 := squareSample_le p s .sq1
  have h2 := squareSample_le p s .sq2
  exact ⟨squareSample_le p s c, by omega, squareSample_of_sounds, squareSample_of_silent⟩

/-! ### The length (spec/43_apu_channels.md R274) -/

theorem lengthClock_eq (q : SquareChan) :
    lengthClock q = { q with length := BitVec.ofNat 8 (if q.halt then q.length.toNat else q.length.toNat - 1) } := by
  have hsame : { q with length := BitVec.ofNat 8 q.length.toNat } = q := by rw [BitVec.ofNat_toNat, BitVec.setWidth_eq]
  unfold lengthClock
  split
  next h =>
    obtain ⟨hhalt, hpos⟩ := h
    simp only [sub_one_eq_ofNat hpos, hhalt, Bool.false_eq_true, if_false]
  next h =>
    have hkeep : (if q.halt then q.length.toNat else q.length.toNat - 1) = q.length.toNat := by
      split
      · rfl
      next hhalt =>
        have : ¬ 0 < q.length.toNat := fun hpos => h ⟨eq_false_of_ne_true hhalt, hpos⟩
        omega
    rw [hkeep, hsame]

/-- A disabled channel has length 0. -/
def Silent (q : SquareChan) : Prop := q.enabled = false → q.length = 0

theorem disabledIsSilent_iff (s : State) : DisabledIsSilent s ↔ ∀ c, Silent (getSquare s c) :=
  ⟨fun h c => by cases c; exacts [h.1, h.2], fun h => ⟨h .sq1, h .sq2⟩⟩

theorem Silent.of_same {q q' : SquareChan} (h : Silent q) (henabled : q'.enabled = q.enabled)
    (hlength : q'.length = q.length) : Silent q' := fun hq => hlength.trans (h (henabled.symm.trans hq))

section
variable {q : SquareChan} (h : Silent q)
include h

theorem Silent.timerClock : Silent (timerClock q) := by
  unfold Machine.timerClock
  split <;> exact h.of_same rfl rfl

theorem Silent.envelopeClock : Silent (envelopeClock q) := by
  unfold Machine.envelopeClock
  split_ifs <;> exact h.of_same rfl rfl

theorem Silent.sweepClock (p : Params) (c : Square) : Silent (sweepClock p c q) := by
  unfold Machine.sweepClock
  split <;> exact h.of_same rfl rfl

/-- The clock counts a length down only from above 0, where the channel is enabled. -/
theorem Silent.lengthClock : Silent (lengthClock q) := by
  rw [lengthClock_eq]
  intro hq
  simp [h hq]

theorem Silent.cycleChannel (p : Params) (c : Square) (s : State) : Silent (cycleChannel p c s q) := by
  have hquarter (half : Bool) : Silent (quarterChannel p c half q) := by
    unfold quarterChannel
    split
    · exact h.envelopeClock.lengthClock.sweepClock p c
    · exact h.envelopeClock
  unfold Machine.cycleChannel
  dsimp only
  split_ifs
  · exact (hquarter _).timerClock
  · exact h.timerClock
  · exact hquarter _
  · exact h

/-- A length is loaded only into an enabled channel. -/
theorem Silent.squareLength (v : Byte) : Silent (squareLength v q) := by
  intro hq
  have henabled : q.enabled = false := hq
  simp [Machine.squareLength, henabled, h henabled]

end

theorem squareEnable_silent (b : Bool) (q : SquareChan) : Silent (squareEnable b q) := by
  intro hb
  have hb' : b = false := hb
  simp [squareEnable, hb']

/-! ### What an operation leaves in a channel (spec/43_apu_channels.md R281) -/

/-- What an operation leaves in channel `c`, which held `q`; of the rest of the state, `s`, it reads the shared
clock. -/
def squareAfter (c : Square) (s : State) (q : SquareChan) : Instr → SquareChan
  | .bwSqCtrl d v => if d = c then squareControl v q else q
  | .bwSqSweep d v => if d = c then squareSweepWrite v q else q
  | .bwSqTlo d v => if d = c then squareTimerLow v q else q
  | .bwSqLen d v => if d = c then squareLength v q else q
  | .bwSndEn v => squareEnable (v.getLsbD (if c = .sq1 then 0 else 1)) q
  | .sc => cycleChannel Config.params c s q
  | .rs _ => SquareChan.zero
  | _ => q

theorem exec_getSquare {i : Instr} {s t : State} (h : exec i s = .next t) (c : Square) :
    getSquare t c = squareAfter c s (getSquare s c) i := by
  cases exec_effect h with
  | nothing hi r d => cases hi <;> cases c <;> rfl
  | storesOnly hi => cases hi <;> cases c <;> rfl
  | chrBank hi => obtain ⟨k, rfl, -⟩ | ⟨k, rfl, -⟩ := hi <;> cases c <;> rfl
  | @square i d v k f hi => cases hi <;> cases c <;> cases d <;> rfl
  | _ => cases c <;> rfl

theorem squareAfter_congr {s s' : State} (hparity : s.apuParity = s'.apuParity) (hframe : s.frameCtr = s'.frameCtr)
    (hquarter : s.quarterCount = s'.quarterCount) (c : Square) (q : SquareChan) (i : Instr) :
    squareAfter c s q i = squareAfter c s' q i := by
  cases i with
  | sc => simp only [squareAfter, cycleChannel, hparity, hframe, hquarter]
  | _ => rfl

/-- Settles O47: what an operation leaves in a channel is `squareAfter`, which reads that channel and the clock. -/
theorem squaresAreIndependent : Obligations.SquaresAreIndependent := by
  intro i c s s' t t' hq hparity hframe hquarter ht ht'
  rw [exec_getSquare ht, exec_getSquare ht', hq, squareAfter_congr hparity hframe hquarter]

theorem squareAfter_silent {c : Square} {q : SquareChan} (h : Silent q) (s : State) (i : Instr) :
    Silent (squareAfter c s q i) := by
  cases i with
  | bwSqCtrl d v | bwSqSweep d v | bwSqTlo d v => simp only [squareAfter]; split <;> exact h.of_same rfl rfl
  | bwSqLen d v =>
    simp only [squareAfter]
    split
    · exact h.squareLength v
    · exact h
  | bwSndEn v => exact squareEnable_silent _ q
  | sc => exact h.cycleChannel _ c s
  | rs soft => exact fun _ => rfl
  | _ => exact h

theorem exec_disabledIsSilent {i : Instr} {s t : State} (hs : DisabledIsSilent s) (h : exec i s = .next t) :
    DisabledIsSilent t := by
  rw [disabledIsSilent_iff] at hs ⊢
  intro c
  rw [exec_getSquare h]
  exact squareAfter_silent (hs c) s i

/-- Settles O45: a channel's length is loaded while it is enabled alone, and disabling zeroes it. -/
theorem disabledChannelStaysSilent : Obligations.DisabledChannelStaysSilent :=
  ⟨lengthClock_eq, ⟨fun _ => rfl, fun _ => rfl⟩, fun _ _ hs h =>
    step_keeps (P := DisabledIsSilent) (fun _ _ hp => hp) (fun _ _ _ => exec_disabledIsSilent) hs h⟩

end Sys2Proof.Machine
end

section
/-!
The mixer's ranges (spec/44_mixer.md R333, R335).
-/
namespace Sys2Proof.Machine

open Sys2Proof.Claims

/-! ### The filter (spec/44_mixer.md R335) -/

/-- The filter's share of a distance upward lies between nothing and the whole. -/
theorem filterShare_of_nonneg {x : Int} (hx : 0 ≤ x) :
    0 ≤ (x * 65371).tdiv 65536 ∧ (x * 65371).tdiv 65536 ≤ x := by
  rw [Int.tdiv_eq_ediv_of_nonneg (by omega)]
  omega

/-- Its share of a distance downward is that of the same distance upward, negated. -/
theorem filterShare_of_nonpos {x : Int} (hx : x ≤ 0) :
    x ≤ (x * 65371).tdiv 65536 ∧ (x * 65371).tdiv 65536 ≤ 0 := by
  have hneg := filterShare_of_nonneg (Int.neg_nonneg.2 hx)
  rw [neg_mul, Int.neg_tdiv] at hneg
  omega

theorem smooth_between (prev avg : Int) : min prev avg ≤ smooth prev avg ∧ smooth prev avg ≤ max prev avg := by
  unfold smooth
  rcases le_total prev avg with h | h
  · have := filterShare_of_nonneg (Int.sub_nonneg.2 h)
    rw [min_eq_left h, max_eq_right h]
    omega
  · have := filterShare_of_nonpos (Int.sub_nonpos_of_le h)
    rw [min_eq_right h, max_eq_left h]
    omega

/-- Settles O49: the output moves by a share of the distance, which is nothing at least and the whole at most. -/
theorem filterStaysBetween : Obligations.FilterStaysBetween := by
  intro prev avg
  obtain ⟨hlow, hhigh⟩ := smooth_between prev avg
  refine ⟨hlow, hhigh, fun x => ?_⟩
  rcases le_total 0 x with hx | hx
  · obtain ⟨hlow, hhigh⟩ := filterShare_of_nonneg hx
    rwa [abs_of_nonneg hlow, abs_of_nonneg hx]
  · obtain ⟨hlow, hhigh⟩ := filterShare_of_nonpos hx
    rw [abs_of_nonpos hhigh, abs_of_nonpos hx]
    exact Int.neg_le_neg hlow

/-! ### The mix (spec/44_mixer.md R333) -/

/-- A term of the mix grows with its samples. -/
theorem mixTerm_mono {c k : Rat} (hc : 0 ≤ c) (hk : 0 < k) {m n : Nat} (h : m ≤ n) :
    c * (m : Rat) / (100 * (k + 100 * (m : Rat))) ≤ c * (n : Rat) / (100 * (k + 100 * (n : Rat))) := by
  have hmn : (m : Rat) ≤ n := by exact_mod_cast h
  rw [div_le_div_iff₀ (by positivity) (by positivity)]
  have hck : c * k * m ≤ c * k * n := mul_le_mul_of_nonneg_left hmn (by positivity)
  linarith

theorem mixedValue_mono (p : Params) {a b d a' b' d' : Nat} (hsq : a + b ≤ a' + b') (hd : d ≤ d') :
    mixedValue p ((a, b), d) ≤ mixedValue p ((a', b'), d') :=
  mul_le_mul_of_nonneg_right
    (add_le_add (mixTerm_mono (by norm_num) (by norm_num) hsq) (mixTerm_mono (by norm_num) (by norm_num) hd))
    p.mixScale_pos.le

theorem mixedValue_nonneg (p : Params) (x : (Nat × Nat) × Nat) : 0 ≤ mixedValue p x := by
  have := p.mixScale_pos
  unfold mixedValue
  positivity

/-- Settles O50: the mix grows with its samples, so that of the largest is the bound. -/
theorem mixedSampleStaysBelow13644 : Obligations.MixedSampleStaysBelow13644 := by
  intro p a b d hscale ha hb hd
  simp only [scaledSample_eq_mixedValue]
  have hmax : mixedValue p ((a, b), d) ≤ mixedValue p ((15, 15), 127) := mixedValue_mono p (by omega) hd
  have hbound : mixedValue p ((15, 15), 127) < 13644 := by
    rw [mixedValue, hscale]
    norm_num
  exact ⟨mixedValue_nonneg p _, hmax.trans_lt hbound, hmax⟩

end Sys2Proof.Machine
end

section
/-!
The invariants of Safety.lean: they hold of the created unit, every step keeps them, and where they hold no step faults
(spec/10_state.md, spec/60_exceptions.md R402).
-/
namespace Sys2Proof.Machine

open Sys2Proof.Claims

/-! ### The memories (spec/60_exceptions.md R402) -/

theorem RamWritten.wf {m m' : Memory} (h : RamWritten m m') (hm : Memory.wf Config.params.prgRamPowerOn m = true) :
    Memory.wf Config.params.prgRamPowerOn m' = true := by
  obtain rfl | ⟨off, v, -, rfl⟩ := h
  · exact hm
  · exact Memory.wf_write off v hm

theorem ChrWritten.wf {m m' : Memory} (h : ChrWritten m m') (hm : Memory.wf Config.params.chrRamPowerOn m = true) :
    Memory.wf Config.params.chrRamPowerOn m' = true := by
  obtain rfl | ⟨off, v, -, rfl⟩ := h
  · exact hm
  · exact Memory.wf_write off v hm

theorem exec_memoryCanonical {i : Instr} {s t : State} (hs : MemoryCanonical s) (h : exec i s = .next t) :
    MemoryCanonical t := by
  obtain ⟨hram, hchr⟩ := hs
  cases exec_effect h with
  | lowRam off v m hm | highRam off v m hm => exact ⟨hm.wf hram, hchr⟩
  | chrMem a v m hm => exact ⟨hram, hm.wf hchr⟩
  | _ => exact ⟨hram, hchr⟩

theorem RamWritten.bounded {m m' : Memory} (h : RamWritten m m')
    (hm : ∀ c ∈ m, c.1 < Config.params.prgRamPages * 8192) :
    ∀ c ∈ m', c.1 < Config.params.prgRamPages * 8192 := by
  obtain rfl | ⟨off, v, hpage, rfl⟩ := h
  · exact hm
  · intro c hc
    obtain heq | hc := Memory.mem_write hc
    · omega
    · exact hm c hc

theorem ChrWritten.bounded {m m' : Memory} (h : ChrWritten m m')
    (hm : ∀ c ∈ m, c.1 < Config.params.chrPages * 1024) :
    ∀ c ∈ m', c.1 < Config.params.chrPages * 1024 := by
  obtain rfl | ⟨off, v, hoff, rfl⟩ := h
  · exact hm
  · intro c hc
    obtain heq | hc := Memory.mem_write hc
    · exact heq.trans_lt hoff
    · exact hm c hc

theorem exec_memoryBounded {i : Instr} {s t : State} (hs : MemoryBounded s) (h : exec i s = .next t) :
    MemoryBounded t := by
  obtain ⟨hram, hchr⟩ := hs
  cases exec_effect h with
  | lowRam off v m hm | highRam off v m hm => exact ⟨hm.bounded hram, hchr⟩
  | chrMem a v m hm => exact ⟨hram, hm.bounded hchr⟩
  | _ => exact ⟨hram, hchr⟩

/-! ### The ranges that follow from the derived tables (spec/10_state.md R39, R40, spec/41_write_protect.md R205) -/

theorem ramPage_lt (p : Params) (x : Nat) : ramPage p x < p.prgRamPages := (ramPageWrapIsAMask p x).2.1

theorem romWin_inRange (v al : Byte) (k : Nat) : WindowInRange (romWin Config.params v al k) :=
  Nat.mod_lt _ Config.params.prgRomPages_pos

theorem selWin_inRange (v al : Byte) (k : Nat) : WindowInRange (selWin Config.params v al k) := by
  unfold selWin
  split
  · exact romWin_inRange v al k
  · exact ramPage_lt ..

theorem derivePrg_inRange (m : BitVec 2) (r4 r5 r6 r7 : Byte) (w : Fin 4) :
    WindowInRange (derivePrg Config.params m r4 r5 r6 r7)[w.val] := by
  obtain rfl | rfl | rfl | rfl := bitVec_two_cases m <;> fin_cases w <;>
    simp [derivePrg, romWin_inRange, selWin_inRange]

theorem derivePrg_top (m : BitVec 2) (r4 r5 r6 r7 : Byte) : (derivePrg Config.params m r4 r5 r6 r7)[3].kind = .rom := by
  obtain rfl | rfl | rfl | rfl := bitVec_two_cases m <;> rfl

theorem windowsInRange_of_derived {s : State} (hprg : PrgTableDerived s) (hlow : LowRamDerived s) :
    WindowsInRange s := by
  have hwin : s.prgWin = derivePrg Config.params s.prgMode _ _ _ _ := hprg
  refine ⟨fun w => ?_, hlow.trans_lt (ramPage_lt ..)⟩
  rw [hwin]
  exact derivePrg_inRange _ _ _ _ _ w

theorem topWindowIsRom_of_derived {s : State} (hprg : PrgTableDerived s) : TopWindowIsRom s := by
  have hwin : s.prgWin = derivePrg Config.params s.prgMode _ _ _ _ := hprg
  rw [TopWindowIsRom, hwin]
  exact derivePrg_top ..

/-! ### The latches (spec/10_state.md R34, spec/30_encoding.md R116) -/

/-- The registers that have a latch. -/
def latchRegisters : List (Fin 44) :=
  [rPrgMode, rChrMode, rChrHigh, rProtA, rProtB, rIrqTarget, rIrqCtrl, rMulA, rMulB, rDmcCtrl, rDmcRaw]

/-- The latches, in the order of `LatchesFollowRegisters`. -/
def latches (s : State) :=
  (s.prgMode, s.chrMode, s.chrHigh, s.protA, s.protB, s.irqTarget, s.irqEnable, s.mulA, s.mulB, s.dmcCtrl, s.dmcDac)

/-- What `LatchesFollowRegisters` says of the latches, register by register. -/
theorem latchesFollowRegisters_iff (s : State) :
    LatchesFollowRegisters s ↔ latches s =
      (lowField (getReg s rPrgMode), lowField (getReg s rChrMode), lowField (getReg s rChrHigh),
        lowField (getReg s rProtA), lowField (getReg s rProtB), getReg s rIrqTarget, topBit (getReg s rIrqCtrl),
        getReg s rMulA, getReg s rMulB, getReg s rDmcCtrl, getReg s rDmcRaw &&& Config.params.dmcMask) := by
  simp only [LatchesFollowRegisters, latches, Prod.mk.injEq]

/-- A write of a register without a latch leaves every latch the field of its register. -/
theorem latchesFollow_of_reg_set {s t : State} {k : Fin 44} {v : Byte} (hk : k ∉ latchRegisters)
    (hreg : t.reg = s.reg.set k.val v) (hlatch : latches t = latches s) (hs : LatchesFollowRegisters s) :
    LatchesFollowRegisters t := by
  have hsame {j : Fin 44} (hj : j ∈ latchRegisters) : getReg t j = getReg s j :=
    getReg_of_reg_set_ne hreg fun h => hk (Fin.ext h ▸ hj)
  rw [latchesFollowRegisters_iff] at hs ⊢
  rw [hlatch, hs]
  simp only [hsame (j := rPrgMode) (by decide), hsame (j := rChrMode) (by decide), hsame (j := rChrHigh) (by decide),
    hsame (j := rProtA) (by decide), hsame (j := rProtB) (by decide), hsame (j := rIrqTarget) (by decide),
    hsame (j := rIrqCtrl) (by decide), hsame (j := rMulA) (by decide), hsame (j := rMulB) (by decide),
    hsame (j := rDmcCtrl) (by decide), hsame (j := rDmcRaw) (by decide)]

theorem not_mem_latchRegisters_rPrgBank : ∀ r, rPrgBank r ∉ latchRegisters := by decide

theorem not_mem_latchRegisters_rChrBank : ∀ r, rChrBank r ∉ latchRegisters := by decide

theorem not_mem_latchRegisters_rSquare (c : Square) : ∀ k, rSquare c k ∉ latchRegisters := by cases c <;> decide

theorem StoresOnly.not_mem_latchRegisters {v : Byte} {i : Instr} {k : Fin 44} (h : StoresOnly v i k) :
    k ∉ latchRegisters := by
  cases h with
  | bwFill r => cases r <;> decide
  | bwSplit r => cases r <;> decide
  | _ => decide

theorem reset_latchesFollowRegisters : LatchesFollowRegisters State.reset :=
  ⟨rfl, rfl, rfl, rfl, rfl, rfl, rfl, rfl, rfl, rfl, BitVec.zero_and.symm⟩

theorem exec_latchesFollowRegisters {i : Instr} {s t : State} (hs : LatchesFollowRegisters s)
    (h : exec i s = .next t) : LatchesFollowRegisters t := by
  cases exec_effect h with
  | nothing hi r d => exact hs
  | lowRam off v m hm | highRam off v m hm | chrMem a v m hm => exact hs
  | irqStatus | mask m | cpuCycle | ppuCycle cycle a xs | amplitude => exact hs
  | reset soft => exact reset_latchesFollowRegisters
  | storesOnly hi => exact latchesFollow_of_reg_set hi.not_mem_latchRegisters rfl rfl hs
  | prgBank r v => exact latchesFollow_of_reg_set (not_mem_latchRegisters_rPrgBank r) rfl rfl hs
  | @chrBank i r v hi => exact latchesFollow_of_reg_set (not_mem_latchRegisters_rChrBank r) rfl rfl hs
  | @square i c v k f hi => exact latchesFollow_of_reg_set (not_mem_latchRegisters_rSquare c k) rfl rfl hs
  | prgRamPage v | ntMap v | sndEn v => exact latchesFollow_of_reg_set (by decide) rfl rfl hs
  | _ =>
    simp only [LatchesFollowRegisters, getReg] at hs ⊢
    simp [stored, chrModeWritten, rederivePrg, hs]

/-! ### The IRQ status byte (spec/10_state.md R43) -/

/-- The masks of a PPU cycle leave the low bits clear. -/
theorem syncStatus_lowBits {p : Params} {cycle : Nat} {s : State} (hs : StatusLowBitsClear s) :
    syncStatus p cycle s &&& 0x3F#8 = 0#8 := by
  have hmask : ∀ x : Byte, x &&& 0x3F#8 = 0#8 → (x &&& 0xBF#8) &&& 0x3F#8 = 0#8 ∧ (x ||| 0x40#8) &&& 0x3F#8 = 0#8 ∧
      (x ||| 0x80#8) &&& 0x3F#8 = 0#8 := by decide
  have hs' : s.irqStatus &&& 0x3F#8 = 0#8 := hs
  unfold syncStatus
  dsimp only
  obtain ⟨hclear, hframe, hpending⟩ := hmask _ hs'
  split_ifs
  · exact (hmask _ hclear).2.2
  · exact (hmask _ hframe).2.2
  · exact hpending
  · exact hclear
  · exact hframe
  · exact hs'

theorem exec_statusLowBitsClear {i : Instr} {s t : State} (hs : StatusLowBitsClear s) (h : exec i s = .next t) :
    StatusLowBitsClear t := by
  cases exec_effect h with
  | ppuCycle cycle a xs => exact syncStatus_lowBits hs
  | irqStatus =>
    have hmask : ∀ x : Byte, x &&& 0x3F#8 = 0#8 → (x &&& 0x7F#8) &&& 0x3F#8 = 0#8 := by decide
    exact hmask _ hs
  | reset soft => exact BitVec.zero_and
  | _ => exact hs

/-! ### The DMC, the frame counters and the buffers (spec/10_state.md R50 to R53) -/

theorem exec_dmcAlwaysEnabled {i : Instr} {s t : State} (hs : DmcAlwaysEnabled s) (h : exec i s = .next t) :
    DmcAlwaysEnabled t := by
  cases exec_effect h with
  | reset soft => exact rfl
  | _ => exact hs

theorem clocked_frameCountersInRange {s : State} (hs : FrameCountersInRange s) :
    FrameCountersInRange (clocked Config.params s) := by
  have := Config.params.quarterPeriod_pos
  have := Config.params.halfDiv_pos
  obtain ⟨hframe, hquarter⟩ := hs
  constructor <;> simp only [clocked] <;> split_ifs <;> omega

theorem exec_frameCountersInRange {i : Instr} {s t : State} (hs : FrameCountersInRange s) (h : exec i s = .next t) :
    FrameCountersInRange t := by
  cases exec_effect h with
  | cpuCycle => exact clocked_frameCountersInRange (s := quiet s) hs
  | reset soft => exact ⟨Config.params.quarterPeriod_pos, Config.params.halfDiv_pos⟩
  | _ => exact hs

theorem exec_buffersCounted {i : Instr} {s t : State} (hs : BuffersCounted s) (h : exec i s = .next t) :
    BuffersCounted t := by
  cases exec_effect h with
  | cpuCycle =>
    obtain ⟨hsq1, hsq2, hdmc⟩ := hs
    simp [BuffersCounted, appendSamples, clocked, quiet, hsq1, hsq2, hdmc]
  | amplitude | reset soft => exact ⟨rfl, rfl, rfl⟩
  | _ => exact hs

/-- The DMC's sample is its DAC level or 0, and the level is a masked byte. -/
theorem dmcSample_le {s : State} (hs : LatchesFollowRegisters s) : dmcSample s ≤ Config.params.dmcMask.toNat := by
  obtain ⟨-, -, -, -, -, -, -, -, -, -, hdac⟩ := hs
  unfold dmcSample
  split
  · rw [hdac, BitVec.toNat_and]; exact Nat.and_le_right
  · exact Nat.zero_le _

theorem forall_mem_snoc {P : Nat → Prop} {xs : List Nat} {x : Nat} (hxs : ∀ y ∈ xs, P y) (hx : P x) :
    ∀ y ∈ xs ++ [x], P y := by
  simpa [or_imp, forall_and] using ⟨hxs, hx⟩

theorem exec_samplesInRange {i : Instr} {s t : State} (hs : SamplesInRange s) (hl : LatchesFollowRegisters s)
    (h : exec i s = .next t) : SamplesInRange t := by
  cases exec_effect h with
  | cpuCycle =>
    obtain ⟨hsq1, hsq2, hdmc⟩ := hs
    exact ⟨forall_mem_snoc hsq1 (squareSample_le ..), forall_mem_snoc hsq2 (squareSample_le ..),
      forall_mem_snoc hdmc (dmcSample_le hl)⟩
  | amplitude | reset soft => exact ⟨List.forall_mem_nil _, List.forall_mem_nil _, List.forall_mem_nil _⟩
  | _ => exact hs

/-- The filter stays between its state and an average that is clamped to 16 bits. -/
theorem nextSample_inRange {p : Params} {s : State} (hs : MixInRange s) :
    -32768 ≤ nextSample p s ∧ nextSample p s ≤ 32767 := by
  obtain ⟨hlow, hhigh⟩ := hs
  obtain ⟨hmin, hmax⟩ := smooth_between s.mixPrev (frameAverage p s)
  have havg : -32768 ≤ frameAverage p s ∧ frameAverage p s ≤ 32767 := by
    unfold frameAverage clamp16
    omega
  unfold nextSample
  omega

theorem exec_mixInRange {i : Instr} {s t : State} (hs : MixInRange s) (h : exec i s = .next t) : MixInRange t := by
  cases exec_effect h with
  | amplitude => exact nextSample_inRange hs
  | reset soft => exact (by decide : -32768 ≤ (0 : Int) ∧ (0 : Int) ≤ 32767)
  | _ => exact hs

/-! ### The created unit (spec/70_reset_and_hazards.md R433) -/

/-- Settles O54: the four tables by their arithmetic, every other field as written. -/
theorem creationValues : Obligations.CreationValues := by
  refine ⟨fun k => ?_, rfl, rfl, rfl, fun r => ⟨?_, ?_⟩, fun w => ?_, rfl, rfl, rfl, rfl, rfl, rfl, rfl, rfl, rfl, rfl,
    rfl, rfl, rfl, rfl, rfl, rfl, rfl, rfl, rfl, rfl, rfl, rfl, rfl, rfl, rfl⟩
  · simp only [reset_reg_eq_ofFn, Vector.getElem_ofFn]
  · simp only [reset_chrHi_eq_ofFn, Vector.getElem_ofFn]
  · simp only [reset_chrSlot_eq_ofFn, Vector.getElem_ofFn]
  · simp only [reset_prgWin_eq_ofFn, Vector.getElem_ofFn]

/-- Settles O56: the tables are the ones a reset derives, the memories and the buffers are empty, and every latch is the
field of its register's reset value. -/
theorem createdUnitIsGood : Obligations.CreatedUnitIsGood where
  memoryCanonical := reset_wf Config.params
  memoryBounded := ⟨List.forall_mem_nil _, List.forall_mem_nil _⟩
  windowsInRange := windowsInRange_of_derived (reset_prgTableDerived State.reset) (Nat.zero_mod _).symm
  topWindowIsRom := topWindowIsRom_of_derived (reset_prgTableDerived State.reset)
  prgTableDerived := reset_prgTableDerived State.reset
  lowRamDerived := (Nat.zero_mod _).symm
  chrTableDerived := reset_chrTableDerived State.reset
  chrSlotsBounded := reset_chrSlotsBounded
  latchesFollowRegisters := reset_latchesFollowRegisters
  statusLowBitsClear := rfl
  lineImpliesPending := fun h => nomatch h
  productHolds := rfl
  disabledIsSilent := ⟨fun _ => rfl, fun _ => rfl⟩
  dmcAlwaysEnabled := rfl
  frameCountersInRange := ⟨Config.params.quarterPeriod_pos, Config.params.halfDiv_pos⟩
  buffersCounted := ⟨rfl, rfl, rfl⟩
  samplesInRange := ⟨List.forall_mem_nil _, List.forall_mem_nil _, List.forall_mem_nil _⟩
  mixInRange := ⟨by decide, by decide⟩

/-! ### Every step (spec/10_state.md, spec/60_exceptions.md R402) -/

/-- No invariant speaks of the waiting calls. -/
theorem good_calls {s : State} (hs : Good s) (cs : List Call) : Good { s with calls := cs } :=
  { hs with }

/-- Every operation that answers keeps every invariant. -/
theorem exec_good {i : Instr} {s t : State} (hs : Good s) (h : exec i s = .next t) : Good t where
  memoryCanonical := exec_memoryCanonical hs.memoryCanonical h
  memoryBounded := exec_memoryBounded hs.memoryBounded h
  windowsInRange := windowsInRange_of_derived (exec_prgTableDerived hs.prgTableDerived h)
    (exec_lowRamDerived hs.lowRamDerived h)
  topWindowIsRom := topWindowIsRom_of_derived (exec_prgTableDerived hs.prgTableDerived h)
  prgTableDerived := exec_prgTableDerived hs.prgTableDerived h
  lowRamDerived := exec_lowRamDerived hs.lowRamDerived h
  chrTableDerived := exec_chrTableDerived hs.chrTableDerived h
  chrSlotsBounded := exec_chrSlotsBounded hs.chrSlotsBounded h
  latchesFollowRegisters := exec_latchesFollowRegisters hs.latchesFollowRegisters h
  statusLowBitsClear := exec_statusLowBitsClear hs.statusLowBitsClear h
  lineImpliesPending := exec_lineImpliesPending hs.lineImpliesPending h
  productHolds := exec_productHolds hs.productHolds h
  disabledIsSilent := exec_disabledIsSilent hs.disabledIsSilent h
  dmcAlwaysEnabled := exec_dmcAlwaysEnabled hs.dmcAlwaysEnabled h
  frameCountersInRange := exec_frameCountersInRange hs.frameCountersInRange h
  buffersCounted := exec_buffersCounted hs.buffersCounted h
  samplesInRange := exec_samplesInRange hs.samplesInRange hs.latchesFollowRegisters h
  mixInRange := exec_mixInRange hs.mixInRange h

/-- Settles O57: each invariant is kept by every operation that answers. -/
theorem everyStepKeepsTheInvariants : Obligations.EveryStepKeepsTheInvariants := fun _ _ =>
  step_keeps (fun _ cs hs => good_calls hs cs) fun _ _ _ => exec_good

/-! ### No fault (spec/60_exceptions.md R402) -/

/-- The page of the window a high address reads, by the window's kind. -/
theorem page_lt_of_kind {s : State} (hs : WindowsInRange s) {a : BitVec 15} {k : PrgKind}
    (hk : (s.prgWin[a.toNat / 8192]'(by omega)).kind = k) :
    (s.prgWin[a.toNat / 8192]'(by omega)).page < pagesOf Config.params k := hk ▸ hs.1 ⟨a.toNat / 8192, by omega⟩

theorem exec_ne_fault {s : State} (hs : WindowsInRange s) (i : Instr) (f : Fault) : exec i s ≠ .fault f := by
  have hpage := hs.2
  intro h
  cases i with
  | brPrgRamLo off => rw [(lowRamReadIsUngated off s).1 hpage] at h; cases h
  | bwPrgRamLo off v =>
    obtain ⟨hlocked, hunlocked, -⟩ := lowRamWriteNeedsBothKeys off v s
    by_cases hkeys : keysSet s
    · obtain ⟨t, ht, -⟩ := hunlocked hkeys hpage
      rw [ht] at h; cases h
    · rw [hlocked hkeys] at h; cases h
  | brHigh a =>
    obtain ⟨hrom, hram, -⟩ := highReadDereferencesItsWindow a s _ rfl
    cases hk : (s.prgWin[a.toNat / 8192]'(by omega)).kind with
    | rom => rw [hrom hk (page_lt_of_kind hs hk)] at h; cases h
    | ram => rw [hram hk (page_lt_of_kind hs hk)] at h; cases h
  | bwHigh a v =>
    obtain ⟨hrom, hram, -⟩ := highWriteReachesRamOnly a v s _ rfl
    cases hk : (s.prgWin[a.toNat / 8192]'(by omega)).kind with
    | rom => rw [hrom hk] at h; cases h
    | ram =>
      obtain ⟨t, ht, -⟩ := hram hk (page_lt_of_kind hs hk)
      rw [ht] at h; cases h
  | brUndriven addr =>
    change execBrUndriven addr s = .fault f at h
    unfold execBrUndriven at h
    split at h <;> cases h
  | bwUnmapped addr v =>
    change execBwUnmapped addr v s = .fault f at h
    unfold execBwUnmapped at h
    split at h <;> cases h
  | pr a =>
    change execPr a s = .fault f at h
    unfold execPr at h
    split at h <;> cases h
  | _ => cases h

/-- Settles O58: only the four accesses to PRG memory fault, and each only through a page its memory does not have. -/
theorem noStepLeavesTheMemories : Obligations.NoStepLeavesTheMemories := by
  intro s hs f h
  obtain ⟨c, rest, i, -, -, hexec⟩ := step_fault h
  exact exec_ne_fault (good_calls hs rest).windowsInRange i f hexec

end Sys2Proof.Machine
end
